-- ==== Sys2Proof/Word.lean ====
section
/-! DEFINITION. The word types of the Grafdel 908: what the manual itself treats as bits. -/

namespace Sys2Proof

/-- One word of the shared window (Conventions: "Words of the shared window are 16 bits"). -/
abbrev Word := BitVec 16

/-- One byte of an adapter's EEPROM (R47). -/
abbrev Byte := BitVec 8

/-- A value of the mtick counter (R65): differences are taken modulo 2^32. -/
abbrev Stamp := BitVec 32

/-- A 32-bit count of the window, held modulo 2^32 (R19). -/
abbrev Count32 := BitVec 32

end Sys2Proof
end

