-- ==== Sys2Proof/Config.lean ====
section
/-! DEFINITION. What the spec fixes as numbers for the whole part, and the free values of the model. -/

namespace Sys2Proof.Config

/-- First address of the six registers; below it stand memory words (section 1.1). -/
def registerBase : Nat := 0x1FFA

/-- Value read from IDENT (R3, R18). -/
def ident : Word := 0x9081

/-- mticks in one ms tick: the reference clock is 24 MHz (Signal summary, Conventions). -/
def mticksPerMs : Nat := 24000

/-- Presence samples that bring an EMPTY slot to LOADING (R22). -/
def presenceCount : Nat := 50

/-- Inactive presence samples that make a removal (R22). -/
def removalCount : Nat := 5

/-- Active over-current samples that make an over-current (R35). -/
def overcurrentCount : Nat := 2

/-- Opposite samples that settle a debounced line (R142). -/
def debounceCount : Nat := 3

/-- Confirming intervals that change an input's polarity (R68). -/
def polarityCount : Nat := 4

/-- mticks without a counted hsync edge that lose horizontal sync (R76, R77). -/
def hsyncLoss : Nat := 96000

/-- mticks without a vsync edge that lose vertical sync (R76). -/
def vsyncLoss : Nat := 2400000

/-- The release timer in ms (R105). -/
def releaseTimer : Nat := 100

/-- The write recovery interval, 10 ms, in mticks (R50). -/
def writeRecovery : Nat := 240000

/-- Polls after which a write ends with WRITE_TIMEOUT (R49). -/
def pollLimit : Nat := 10

/-- The greatest bank (R162). -/
def bankMax : Nat := 9999

/-- The greatest meter pending count (R161). -/
def meterMax : Nat := 65535

/-- The greatest supply budget (R37). -/
def budgetMax : Nat := 120

/-- FREE VALUE. Whether a vsync leading edge whose stamp equals the instant of the arming counts as having arrived
after it (R96 names edges before the arming and edges after it, and not this one; assumption 6). It has no body:
nothing can be proved of its value. -/
opaque edgeAtArmingIsAfter : Stamp → Bool

/-- FREE VALUE. The state code that word 18 of a POWER result carries when request word 2, here the argument, names no
slot (R40 gives every POWER result the slot's state code, and there is no slot; assumption 13). It has no body. -/
opaque stateCodeOfNoSlot : Nat → Nat

end Sys2Proof.Config
end

