-- ==== Sys2Proof/Syntax.lean ====
section
/-! DEFINITION. The commands of the block: one constructor of `Instr` per row of spec/opcode_table.json, with the
operands the row's own rule speaks of. Sources, slots, lines and registers are names, not numbers. -/

namespace Sys2Proof

/-- The eight board slots (Conventions, "Sources and slots"). -/
inductive Slot where
  | s1 | s2 | s3 | s4 | s5 | s6 | s7 | s8
deriving DecidableEq, Repr

/-- The nine video sources: source 0 is the menu source, source n is slot n. -/
inductive Source where
  | menu
  | slot (s : Slot)
deriving DecidableEq, Repr

/-- A source's sync inputs (section 4.2): the horizontal or composite input, and source 0's vertical input. -/
inductive SyncInput where
  | horizontal
  | vertical
deriving DecidableEq, Repr

/-- A pulse on a sync input: the stamp of its leading edge, and the mticks for which it has lasted (R70). -/
structure SyncPulse where
  stamp : Stamp
  width : Nat
deriving DecidableEq, Repr

/-- The ten status pages (section 1.4). -/
inductive PageId where
  | source (s : Source)
  | cabinet
deriving DecidableEq, Repr

/-- The debounced cabinet lines (R142): 32 inputs, service and the operator key. -/
inductive Line where
  | input (i : Fin 32)
  | service
  | operatorKey
deriving DecidableEq, Repr

/-- The two coin lines (R159). -/
inductive CoinLine where
  | a
  | b
deriving DecidableEq, Repr

/-- Where in a transaction an expected acknowledge is missing (R48 steps 2 to 4, R50). -/
inductive AckPoint where
  | deviceAddress
  | byteAddress
  | readAddress
  | dataByte (k : Nat)
deriving DecidableEq, Repr

/-- The six registers of the shared window (R3). -/
inductive Register where
  | post | done | notice | noticeMask | control | ident
deriving DecidableEq, Repr

/-- The commands. A take row (`switch` to `reload`, `unknownKind`, `setupBadGroup`) names no operand: the job intake
takes the cell at the head of the intake list and reads the request from the window (R8). `vsyncLeadingEdge` carries the
pulse of which it is the leading edge (R70). -/
inductive Instr where
  | windowWrite (addr : BitVec 13) (value : Word)
  | post (value : Word)
  | done (value : Word)
  | notice (value : Word)
  | noticeMask (value : Word)
  | writeNoEffect (reg : Register) (value : Word)
  | softRestart (value : Word)
  | softRestartEnd (dataByteSent : Bool)
  | powerOnReset
  | unknownKind
  | switch
  | abort
  | powerOff
  | powerOn
  | powerCycle
  | pin
  | unpin
  | loadMap
  | creditGrant
  | creditWithdraw
  | creditDeliver
  | creditRecall
  | setLevels
  | setupMonitor
  | setupGlide
  | setupChord
  | setupCoin
  | setupSupply
  | eepromRead
  | eepromWrite
  | reload
  | pageUpdateStart (page : PageId)
  | pageUpdateEnd (page : PageId)
  | presenceDetected (slot : Slot)
  | removal (slot : Slot)
  | overcurrent (slot : Slot)
  | settleTimerExpiry (slot : Slot)
  | startTimerExpiry (slot : Slot)
  | graceTimerExpiry (slot : Slot)
  | coolTimerExpiry (slot : Slot)
  | busRequestStart
  | readTransactionEnd (bytes : List Byte)
  | writeDataStop
  | ackPoll (acknowledged : Bool)
  | writeTimeout
  | ackMissing (point : AckPoint)
  | writeRecoveryEnd
  | hsyncLeadingEdge (src : Source) (stamp : Stamp)
  | vsyncLeadingEdge (src : Source) (input : SyncInput) (pulse : SyncPulse)
  | polarityChange (src : Source) (input : SyncInput)
  | hsyncLoss (src : Source)
  | vsyncLoss (src : Source)
  | holdingLineStart
  | holdingFrameEnd
  | releaseTimerExpiry
  | lineActivation (line : Line)
  | lineRelease (line : Line)
  | mapInstall (slot : Slot)
  | pulseEntryEnd (entry : Nat) (input : Fin 32)
  | autofireOnEnd (entry : Nat) (input : Fin 32)
  | autofireOffEnd (entry : Nat) (input : Fin 32)
  | exitChord
  | coinPulseEnd (line : CoinLine)
  | coinJam (line : CoinLine)
  | coinPulseStart (slot : Slot)
  | coinPulseOnEnd (slot : Slot)
  | meterPulseStart
  | meterPulseOnEnd
  | rampStep
  | coinMeasuringBegins (line : CoinLine)
  | coinPulseOffEnd (slot : Slot)
  | meterPulseOffEnd
  | setupBadGroup
deriving DecidableEq, Repr

end Sys2Proof
end

