-- ==== Sys2Proof/WellFormed.lean ====
section
/-! DEFINITION. Which commands the part's lines can carry. A command that is not well formed describes an event that
cannot come about on this hardware (a vertical input on a slot, an entry beyond the map); exec gives it no effect. -/

namespace Sys2Proof

/-- Only source 0 has a vertical input (section 4.2). -/
def Source.hasInput : Source → SyncInput → Bool
  | .menu, _ => true
  | .slot _, .horizontal => true
  | .slot _, .vertical => false

/-- A write's data bytes are numbered 0 to 7 (R49, R50). -/
def AckPoint.inRange : AckPoint → Bool
  | .dataByte k => decide (k < 8)
  | .deviceAddress => true
  | .byteAddress => true
  | .readAddress => true

/-- The bits of a register that the table of section 1.2 names for a write. -/
def Register.namedBits : Register → Word
  | .post => 0xFFFF
  | .done => 0xFFFF
  | .notice => 0x1FFF
  | .noticeMask => 0x9FFF
  | .control => 0x0001
  | .ident => 0x0000

/-- A command whose operands are in the ranges the spec gives them. -/
def Instr.wellFormed : Instr → Bool
  | .windowWrite addr _ => decide (addr.toNat < Config.registerBase)
  | .writeNoEffect reg value => decide (value &&& reg.namedBits = 0)
  | .readTransactionEnd bytes => decide (1 ≤ bytes.length) && decide (bytes.length ≤ 32)
  | .ackMissing point => point.inRange
  | .vsyncLeadingEdge src input _ => src.hasInput input
  | .polarityChange src input => src.hasInput input
  | .pulseEntryEnd entry _ => decide (entry < 24)
  | .autofireOnEnd entry _ => decide (entry < 24)
  | .autofireOffEnd entry _ => decide (entry < 24)
  | _ => true

end Sys2Proof
end

