-- ==== Sys2Proof/Decode.lean ====
section
/-! DEFINITION. The command that a word spells by the table's bits. No row of spec/opcode_table.json gives bits
(each row's "fields" is empty and none has "fixed"): the part has no instruction words, so no word spells a command. -/

namespace Sys2Proof

/-- The commands that a word of `nbits` bits could spell, over the rows that give bits: there is none. -/
def rowsWithBits : List (Nat × Word × Word × Instr) := []

/-- The command a word spells by the table's bits: none, since no row gives bits (assumption 4). -/
def decodeTableWord (nbits w : Nat) : Option Instr :=
  (rowsWithBits.find? fun r =>
    decide (r.1 = nbits) && decide (BitVec.ofNat 16 w &&& r.2.1 = r.2.2.1)).map fun r => r.2.2.2

end Sys2Proof
end

