-- ==== Sys2Proof/Machine/State.lean ====
section
/-! DEFINITION. The state of the Grafdel 908 as plain data, block by block (00_scope.md, Block overview), and the state
right after power-on reset. What the spec defines as a view of other state (POST, DONE, ATTN, the powered draw, the
supply and reset lines, the lockout, the jam flag, source 0's window) is computed in Machine/Flags.lean, not stored. -/

namespace Sys2Proof.Machine

/-- One value for each board slot. -/
structure PerSlot (α : Type) where
  s1 : α
  s2 : α
  s3 : α
  s4 : α
  s5 : α
  s6 : α
  s7 : α
  s8 : α
deriving DecidableEq, Repr

/-- One value for each source: source 0 and the slots. -/
structure PerSource (α : Type) where
  menu : α
  slots : PerSlot α
deriving DecidableEq, Repr

/-- The memory words of the shared window as (address, word) pairs, addresses strictly rising, no word 0 listed: an
unlisted word reads 0, since power-on reset writes 0 into every memory word (R1, R18). -/
abbrev Window := List (Nat × Word)

/-- The number of a job cell, 0 to 15 (section 1.3). -/
abbrev CellNo := Fin 16

/-- The cell states (section 1.3). -/
inductive CellState where
  | free | posted | taken | done
deriving DecidableEq, Repr

/-- The intake fault reasons (R7). -/
inductive IntakeFault where
  | none | cellBusy | restarting
deriving DecidableEq, Repr

/-- The job intake and the registers it keeps (sections 1.2, 1.3, 1.5). -/
structure Intake where
  /-- Cell states (section 1.3); POST and DONE are views of them (R3). -/
  cells : Vector CellState 16
  /-- The intake list, oldest posting first (section 1.3). -/
  list : List CellNo
  /-- The NOTICE register (R4). -/
  notice : Word
  /-- The NOTICE_MASK register (R3, R5). -/
  mask : Word
  /-- CONTROL bit 0: a soft restart is in progress (R16, R17). -/
  restarting : Bool
  /-- Cell number of the most recent intake fault (R7). -/
  faultCell : Nat
  /-- Reason of the most recent intake fault (R7). -/
  faultReason : IntakeFault
deriving DecidableEq, Repr

/-- What the page writer holds for one page (section 1.4): its own update count and the mark. -/
structure Page where
  count : Word
  mark : Bool
deriving DecidableEq, Repr

/-- The page writer's state for the ten pages. -/
structure Pages where
  source : PerSource Page
  cabinet : Page
deriving DecidableEq, Repr

/-- The failure reasons (section 1.8, Reasons). -/
inductive FailReason where
  | none | removed | overcurrent | startTimeout | lost | outOfRange | chord | restart | noBudget
deriving DecidableEq, Repr

/-- The undescribed reasons; FIELD carries the descriptor byte index (R54). -/
inductive Undescribed where
  | none | busNack | signature | version | checksum | field (index : Nat)
deriving DecidableEq, Repr

/-- The slot states (section 2.1). -/
inductive SlotState where
  | empty | loading | undescribed | off | settling | starting | running | onAir | lost | cooling | fault
deriving DecidableEq, Repr

/-- A slot's pending power-up (in COOLING and LOADING) or power-up under way (in SETTLING and STARTING): its
requesters, each job-backed one with its own eviction flag, and the slots evicted for it at its check (R27, R29). -/
structure PowerUp where
  job : Option (CellNo × Bool)
  handOver : Option Bool
  auto : Bool
  evicted : Word
deriving DecidableEq, Repr

/-- What the slot manager and its liveness watch keep for one slot (chapter 2, section 7.1). Timers hold the ms left. -/
structure SlotRec where
  state : SlotState
  presenceCount : Nat
  overCount : Nat
  settle : Option Nat
  start : Option Nat
  grace : Option Nat
  cool : Option Nat
  restarts : Nat
  pinned : Bool
  reason : FailReason
  powerUp : Option PowerUp
deriving DecidableEq, Repr

/-- A validated descriptor, field by field (section 1.8, Adapter descriptor). Window bounds are window values (R54). -/
structure Descriptor where
  drawClass : Nat
  title : Nat
  name : List Byte
  settle : Nat
  startTimeout : Nat
  grace : Nat
  coinOn : Nat
  coinOff : Nat
  pulseCap : Nat
  windowLow : Nat
  windowHigh : Nat
  ratio : Nat
  allowance : Nat
  cool : Nat
  activeHigh : Bool
  pinCount : Nat
deriving DecidableEq, Repr

/-- The kinds of bus request (section 3.3). -/
inductive BusKind where
  | autoload | read | write | reload
deriving DecidableEq, Repr

/-- One bus request (section 3.3). -/
structure BusRequest where
  kind : BusKind
  slot : Slot
  addr : Nat
  len : Nat
  data : List Byte
  cells : List CellNo
deriving DecidableEq, Repr

/-- Where the transaction of the head request stands (R48, R49): none, receiving or addressing a read, sending a
write, or polling after a write's data STOP, with the polls made and the instant of the ms tick at which the next poll is
made. -/
inductive BusPhase where
  | idle | reading | writing | polling (polls : Nat) (due : Stamp)
deriving DecidableEq, Repr

/-- The adapter bus (chapter 3). -/
structure Bus where
  queue : List BusRequest
  phase : BusPhase
  /-- A job transaction in flight at a soft restart is running to the end of its byte (R63). -/
  stopping : Bool
  /-- The write recovery interval: the slot whose write began it, and the mtick instant at which it ends, 10 ms after the
  STOP (R50). -/
  recovery : Option (Slot × Stamp)
  copies : PerSlot (Option Descriptor)
  stale : PerSlot Bool
  undescribed : PerSlot Undescribed
deriving DecidableEq, Repr

/-- The conditions of a measurement record (R66). -/
inductive RecCondition where
  | empty | silent | live
deriving DecidableEq, Repr

/-- A run's reference: the first valid candidate's C and line count (R65). -/
structure Reference where
  c : Nat
  lines : Nat
deriving DecidableEq, Repr

/-- The measurement record of one source (R65). A polarity is `true` when positive. -/
structure SyncRec where
  condition : RecCondition
  horizontalPositive : Bool
  verticalPositive : Bool
  horizontalConfirm : Nat
  verticalConfirm : Nat
  lastHsync : Option Stamp
  frameOpen : Bool
  lines : Nat
  lastVsync : Stamp
  /-- Stamp of the latest vsync leading edge in any condition: what the merging rule of R70 compares with (assumption 11). -/
  lastEdge : Option Stamp
  frameTime : Stamp
  frameLines : Nat
  reference : Option Reference
  linesSeen : List Nat
  stableCount : Nat
  stable : Bool
  interlaced : Bool
  p : Nat
  l : Nat
  lastP : Nat
  lastL : Nat
  shownP : Nat
  shownL : Nat
deriving DecidableEq, Repr

/-- The sync measurement unit (chapter 4): the mtick counter, the ms tick taken from it, and the nine records. -/
structure Sync where
  mtick : Stamp
  /-- mtick instant of the latest ms tick; the ticks stand 24000 mticks apart (Conventions; assumption 2). -/
  tickAt : Stamp
  /-- The model's own: the stamp of the latest vsync leading edge taken from source 0's vertical input, for as long as a pulse
  of its composite input with a stamp before it may still be recognised (R70; assumption 11). -/
  verticalEdge : Option Stamp
  records : PerSource SyncRec
deriving DecidableEq, Repr

/-- A line period in 16ths and a line count. -/
structure Timing where
  p : Nat
  l : Nat
deriving DecidableEq, Repr

/-- The glide values: G, V, A and the align limit (R99). -/
structure Glide where
  g : Nat
  v : Nat
  a : Nat
  limit : Nat
deriving DecidableEq, Repr

/-- The cut arm: its target, its rough flag and the instant of the arming (R94, R96). -/
structure CutArm where
  target : Source
  rough : Bool
  armedAt : Stamp
deriving DecidableEq, Repr

/-- The generator modes (R82). -/
inductive GenMode where
  | pass | hold
deriving DecidableEq, Repr

/-- The raster generator (chapter 5). -/
structure Raster where
  mode : GenMode
  /-- The video crosspoint's selection (R82). -/
  crosspoint : Option Source
  p : Nat
  l : Nat
  acc : Nat
  lineIndex : Nat
  /-- Whether the holding line of `lineIndex` has begun (R84); between a frame end and its first line start it has not. -/
  lineBegun : Bool
  /-- mtick instant at which the current holding line begins, and its realised length in mticks (R84). -/
  lineStart : Stamp
  lineLength : Nat
  pass : Option Timing
  pMin : Nat
  pMax : Nat
  pRest : Nat
  lRest : Nat
  glide : Glide
  pendingGlide : Option Glide
  alignCount : Nat
  /-- The target named at the previous alignment step (R94). -/
  alignTarget : Option Source
  cutArm : Option CutArm
  releaseOrder : Option Source
deriving DecidableEq, Repr

/-- The hand-over phases (section 6.1). -/
inductive Phase where
  | quiet | prepare | fadeOut | release | waitTarget | glide | align | fadeIn
deriving DecidableEq, Repr

/-- The hand-over kinds (section 6.1). -/
inductive Kind where
  | none | requested | fallback | recovery
deriving DecidableEq, Repr

/-- The copy of a SWITCH request (section 6.2): its cell, target, carry count (word 3) and flags (word 4). -/
structure SwitchJob where
  cell : CellNo
  target : Source
  carry : Nat
  feed : Bool
  evict : Bool
  pin : Bool
deriving DecidableEq, Repr

/-- The hand-over controller (section 6.1). -/
structure HandOver where
  phase : Phase
  kind : Kind
  onAir : Option Source
  outgoing : Option Source
  target : Option Source
  active : Option SwitchJob
  waiting : Option SwitchJob
  frames : Nat
  rough : Bool
  cold : Bool
  fromHold : Bool
  evicted : Word
  cutFeed : Bool
  carry : Nat
  outgoingFeed : Bool
  releaseTimer : Option Nat
  lastFallback : FailReason
  /-- Units carried at the cut, kept for the SWITCH result (R112, R170). -/
  carried : Nat
  /-- Set from a cancel to the end of its FADE_IN: the active job then completes with 0x8000 (R115). -/
  cancelled : Bool
deriving DecidableEq, Repr

/-- The four modes of a map entry with their times (section 8.2). -/
inductive EntryMode where
  | direct
  | invert
  | pulse (d : Nat)
  | autofire (on off : Nat)
deriving DecidableEq, Repr

/-- One entry of a control map (section 8.2). -/
structure MapEntry where
  first : Nat
  last : Nat
  pin : Nat
  mode : EntryMode
deriving DecidableEq, Repr

/-- A slot's control map (section 8.2). -/
structure ControlMap where
  label : Word
  entries : List MapEntry
deriving DecidableEq, Repr

/-- The phase of an entry for one input it covers, with the ms left (R152, R153). -/
inductive EntryPhase where
  | idle
  | pulsing (left : Nat)
  | on (left : Nat)
  | off (left : Nat)
deriving DecidableEq, Repr

/-- The state of an entry for one input it covers: its phase and the release-wait mark (R154). -/
structure InputState where
  phase : EntryPhase
  wait : Bool
deriving DecidableEq, Repr

/-- The control router (chapter 8). -/
structure Router where
  /-- Debounced states of inputs 0 to 31, 1 meaning active. -/
  inputs : BitVec 32
  service : Bool
  operatorKey : Bool
  /-- Bounce counts: inputs 0 to 31, then service, then the operator key (R142). -/
  bounce : Vector Nat 34
  sampledA : Bool
  sampledB : Bool
  maps : PerSlot ControlMap
  pendingMaps : PerSlot (Option (ControlMap × CellNo))
  driven : Option Slot
  /-- Entry states of the driven slot's map: one list per entry, one state per input it covers. -/
  entries : List (List InputState)
  /-- The pins of the driven slot that stand at their active level; every other pin is idle (R150). -/
  activePins : BitVec 48
  restartHold : Bool
  chordMask : BitVec 32
  /-- Hold time in 100 ms units (R155). -/
  chordHold : Nat
  /-- The chord action: `true` for RETURN, `false` for NOTIFY (R155). -/
  chordReturn : Bool
  chordTimer : Nat
  chordLatch : Bool
  chordFreeze : Bool
deriving DecidableEq, Repr

/-- A coin or meter pulse in flight with the ms left of its phase (R166, R169). -/
inductive Pulse where
  | on (left off : Nat)
  | off (left : Nat)
deriving DecidableEq, Repr

/-- The coin measurement of one coin line (R159). -/
inductive CoinMeasure where
  | idle
  | measuring (width : Nat)
  | jammed
deriving DecidableEq, Repr

/-- The coin setup (R164). -/
structure CoinSetup where
  valueA : Nat
  valueB : Nat
  minWidth : Nat
  maxWidth : Nat
  lockoutLevel : Nat
  meterOn : Nat
  meterOff : Nat
deriving DecidableEq, Repr

/-- The credit unit (chapter 9). The pulse shape of a slot is read from its descriptor copy. -/
structure Credit where
  bank : Nat
  pending : PerSlot Nat
  feed : PerSlot Bool
  pulses : PerSlot (Option Pulse)
  delivered : PerSlot Count32
  coins : Count32
  granted : Count32
  withdrawn : Count32
  unbanked : Count32
  deliveredTotal : Count32
  meterPending : Nat
  meter : Option Pulse
  coinA : CoinMeasure
  coinB : CoinMeasure
  setup : CoinSetup
deriving DecidableEq, Repr

/-- The audio level unit (chapter 10). -/
structure Audio where
  master : Nat
  ratios : PerSource Nat
  floor : Nat
  ramp : Nat
  current : Nat
  target : Nat
  crosspoint : Option Source
  wanted : Option Source
deriving DecidableEq, Repr

/-- The input lines as they stand, `true` for active (Signal summary): what the samples of each ms tick read. -/
structure Pins where
  presence : PerSlot Bool
  overcurrent : PerSlot Bool
  inputs : BitVec 32
  service : Bool
  operatorKey : Bool
  coinA : Bool
  coinB : Bool
  /-- For how many of the 24000 mticks of the ms interval just ended a source's horizontal or composite input stood high;
  it stood low for the rest (R68). -/
  highHorizontal : PerSource Nat
  /-- The same for source 0's vertical input (R68). -/
  highVertical : Nat
deriving DecidableEq, Repr

/-- The whole part, and the model's queue of commands that are waiting, first in, first out. -/
structure State where
  /-- The model's own: the commands waiting, the front first. -/
  pending : List Instr
  window : Window
  intake : Intake
  pages : Pages
  slots : PerSlot SlotRec
  /-- The warm list, head first (R38). -/
  warm : List Slot
  /-- The supply budget B (R37). -/
  budget : Nat
  bus : Bus
  sync : Sync
  raster : Raster
  ho : HandOver
  router : Router
  credit : Credit
  audio : Audio
  pins : Pins
  /-- The model's own: how far the scan of the latest ms tick has come on an empty queue (assumption 2). -/
  scan : Nat
deriving DecidableEq, Repr

/-- The reasons for which the part stops with a fault: there is none. The spec describes no condition that stops it;
every error it describes is a result code, a reason, a notice or a state. -/
inductive Fault where
deriving DecidableEq, Repr

/-- The reasons for which a command has no meaning. -/
inductive Refusal where
  /-- Raised by an arm of exec whose command is not modelled yet; safe. No arm raises it. -/
  | notModelled (mnemonic : String)
deriving DecidableEq, Repr

/-- The same value for every slot. -/
def PerSlot.const {α : Type} (a : α) : PerSlot α := ⟨a, a, a, a, a, a, a, a⟩

/-- A slot right after power-on reset (R45). -/
def SlotRec.reset : SlotRec where
  state := .empty
  presenceCount := 0
  overCount := 0
  settle := none
  start := none
  grace := none
  cool := none
  restarts := 0
  pinned := false
  reason := .none
  powerUp := none

/-- A measurement record with every field 0 or absent, in the given condition (R66, R81). -/
def SyncRec.blank (condition : RecCondition) : SyncRec where
  condition := condition
  horizontalPositive := false
  verticalPositive := false
  horizontalConfirm := 0
  verticalConfirm := 0
  lastHsync := none
  frameOpen := false
  lines := 0
  lastVsync := 0
  lastEdge := none
  frameTime := 0
  frameLines := 0
  reference := none
  linesSeen := []
  stableCount := 0
  stable := false
  interlaced := false
  p := 0
  l := 0
  lastP := 0
  lastL := 0
  shownP := 0
  shownL := 0

/-- The window's registers after power-on reset (R18). -/
def Intake.reset : Intake where
  cells := Vector.replicate 16 .free
  list := []
  notice := 0
  mask := 0
  restarting := false
  faultCell := 0
  faultReason := .none

/-- Every update count 0 and every page marked (R18). -/
def Pages.reset : Pages where
  source := ⟨⟨0, true⟩, PerSlot.const ⟨0, true⟩⟩
  cabinet := ⟨0, true⟩

/-- The adapter bus after power-on reset (R64). -/
def Bus.reset : Bus where
  queue := []
  phase := .idle
  stopping := false
  recovery := none
  copies := PerSlot.const none
  stale := PerSlot.const false
  undescribed := PerSlot.const .none

/-- The sync measurement unit after power-on reset (R81). -/
def Sync.reset : Sync where
  mtick := 0
  tickAt := 0
  verticalEdge := none
  records := ⟨SyncRec.blank .silent, PerSlot.const (SyncRec.blank .empty)⟩

/-- The raster generator after power-on reset (R90 and the table of chapter 5). The first holding line begins at the
end of the reset, at mtick 0. -/
def Raster.reset : Raster where
  mode := .hold
  crosspoint := none
  p := 24405
  l := 262
  acc := 0
  lineIndex := 1
  lineBegun := false
  lineStart := 0
  lineLength := 0
  pass := none
  pMin := 12000
  pMax := 25600
  pRest := 24405
  lRest := 262
  glide := ⟨256, 8, 4, 120⟩
  pendingGlide := none
  alignCount := 0
  alignTarget := none
  cutArm := none
  releaseOrder := none

/-- The hand-over controller after power-on reset (section 6.1). -/
def HandOver.reset : HandOver where
  phase := .quiet
  kind := .none
  onAir := none
  outgoing := none
  target := none
  active := none
  waiting := none
  frames := 0
  rough := false
  cold := false
  fromHold := false
  evicted := 0
  cutFeed := false
  carry := 0
  outgoingFeed := false
  releaseTimer := none
  lastFallback := .none
  carried := 0
  cancelled := false

/-- A map emptied, with no entries (R144); its label, of which R144 says nothing, is the model's choice: 0, as after power-on
reset (assumption 36). -/
def ControlMap.blank : ControlMap := ⟨0, []⟩

/-- The control router after power-on reset (R158): the chord is inputs 6 and 19, 2 s, NOTIFY. -/
def Router.reset : Router where
  inputs := 0
  service := false
  operatorKey := false
  bounce := Vector.replicate 34 0
  sampledA := false
  sampledB := false
  maps := PerSlot.const ControlMap.blank
  pendingMaps := PerSlot.const none
  driven := none
  entries := []
  activePins := 0
  restartHold := false
  chordMask := 0x00080040
  chordHold := 20
  chordReturn := false
  chordTimer := 0
  chordLatch := false
  chordFreeze := false

/-- The coin setup after power-on reset (chapter 9's table). -/
def CoinSetup.reset : CoinSetup := ⟨1, 1, 20, 120, 50, 60, 60⟩

/-- The credit unit after power-on reset (R175). -/
def Credit.reset : Credit where
  bank := 0
  pending := PerSlot.const 0
  feed := PerSlot.const false
  pulses := PerSlot.const none
  delivered := PerSlot.const 0
  coins := 0
  granted := 0
  withdrawn := 0
  unbanked := 0
  deliveredTotal := 0
  meterPending := 0
  meter := none
  coinA := .idle
  coinB := .idle
  setup := CoinSetup.reset

/-- The audio level unit after power-on reset (R183). -/
def Audio.reset : Audio where
  master := 128
  ratios := ⟨255, PerSlot.const 0⟩
  floor := 0
  ramp := 4
  current := 0
  target := 0
  crosspoint := none
  wanted := none

/-- Every input line inactive, and every sync input at rest at the idle level of negative polarity: the model's choice for
lines that the outside drives (assumption 3). -/
def Pins.reset : Pins where
  presence := PerSlot.const false
  overcurrent := PerSlot.const false
  inputs := 0
  service := false
  operatorKey := false
  coinA := false
  coinB := false
  highHorizontal := ⟨Config.mticksPerMs, PerSlot.const Config.mticksPerMs⟩
  highVertical := Config.mticksPerMs

/-- The part right after power-on reset (R18, R45, R64, R81, R90, R100, R158, R175, R183). -/
def State.reset : State where
  pending := []
  window := []
  intake := Intake.reset
  pages := Pages.reset
  slots := PerSlot.const SlotRec.reset
  warm := []
  budget := 40
  bus := Bus.reset
  sync := Sync.reset
  raster := Raster.reset
  ho := HandOver.reset
  router := Router.reset
  credit := Credit.reset
  audio := Audio.reset
  pins := Pins.reset
  scan := 0

end Sys2Proof.Machine
end

