-- ==== Sys2Proof/Machine/Ops.lean ====
section
/-! DEFINITION. The shared operations over the state: numbers of slots and sources, per-slot tables, the memory words of
the window, cells and their completion, marks and notices, the mtick counter. -/

namespace Sys2Proof

/-- The slot's number, 1 to 8. -/
def Slot.number : Slot → Nat
  | .s1 => 1 | .s2 => 2 | .s3 => 3 | .s4 => 4 | .s5 => 5 | .s6 => 6 | .s7 => 7 | .s8 => 8

/-- The slots in ascending number. -/
def Slot.all : List Slot := [.s1, .s2, .s3, .s4, .s5, .s6, .s7, .s8]

/-- The slot a request word names: 1 to 8. -/
def Slot.ofNumber : Nat → Option Slot
  | 1 => some .s1 | 2 => some .s2 | 3 => some .s3 | 4 => some .s4
  | 5 => some .s5 | 6 => some .s6 | 7 => some .s7 | 8 => some .s8
  | _ => none

/-- The source's number, 0 to 8: slot n is source n. -/
def Source.number : Source → Nat
  | .menu => 0
  | .slot s => s.number

/-- The source a request word names: 0 to 8. -/
def Source.ofNumber : Nat → Option Source
  | 0 => some .menu
  | n + 1 => (Slot.ofNumber (n + 1)).map .slot

/-- The sources in ascending number. -/
def Source.all : List Source := .menu :: Slot.all.map .slot

namespace Machine

/-- The value a per-slot table holds for a slot. -/
def PerSlot.get {α : Type} (t : PerSlot α) : Slot → α
  | .s1 => t.s1 | .s2 => t.s2 | .s3 => t.s3 | .s4 => t.s4
  | .s5 => t.s5 | .s6 => t.s6 | .s7 => t.s7 | .s8 => t.s8

/-- The table with one slot's value replaced. -/
def PerSlot.set {α : Type} (t : PerSlot α) (i : Slot) (a : α) : PerSlot α :=
  match i with
  | .s1 => { t with s1 := a } | .s2 => { t with s2 := a } | .s3 => { t with s3 := a } | .s4 => { t with s4 := a }
  | .s5 => { t with s5 := a } | .s6 => { t with s6 := a } | .s7 => { t with s7 := a } | .s8 => { t with s8 := a }

/-- The table that holds `f i` for slot `i`. -/
def PerSlot.ofFn {α : Type} (f : Slot → α) : PerSlot α :=
  ⟨f .s1, f .s2, f .s3, f .s4, f .s5, f .s6, f .s7, f .s8⟩

/-- The value a per-source table holds for a source. -/
def PerSource.get {α : Type} (t : PerSource α) : Source → α
  | .menu => t.menu
  | .slot i => t.slots.get i

/-- The table with one source's value replaced. -/
def PerSource.set {α : Type} (t : PerSource α) (s : Source) (a : α) : PerSource α :=
  match s with
  | .menu => { t with menu := a }
  | .slot i => { t with slots := t.slots.set i a }

/-- The table that holds `f s` for source `s`. -/
def PerSource.ofFn {α : Type} (f : Source → α) : PerSource α :=
  ⟨f .menu, PerSlot.ofFn fun i => f (.slot i)⟩

/-- `x` limited to `lo` and `hi` (R92's clamp). -/
def clampInt (x lo hi : Int) : Int := if x < lo then lo else if hi < x then hi else x

/-! ### The memory words of the window (R1, R2) -/

/-- A memory word: 0 where nothing is listed. -/
def Window.read : Window → Nat → Word
  | [], _ => 0
  | (a, v) :: rest, addr => if a = addr then v else Window.read rest addr

/-- The memory with one word written, in canonical form: writing 0 removes the entry. -/
def Window.write : Window → Nat → Word → Window
  | [], addr, v => if v = 0 then [] else [(addr, v)]
  | (a, w) :: rest, addr, v =>
    if addr < a then (if v = 0 then (a, w) :: rest else (addr, v) :: (a, w) :: rest)
    else if addr = a then (if v = 0 then rest else (addr, v) :: rest)
    else (a, w) :: Window.write rest addr v

/-- Consecutive words written from an address on. -/
def Window.writeAll : Window → Nat → List Word → Window
  | w, _, [] => w
  | w, addr, v :: vs => Window.writeAll (Window.write w addr v) (addr + 1) vs

/-- Entries stand at strictly rising addresses from `lo` on, all of memory words, none holding 0. -/
def Window.risingFrom : Nat → Window → Bool
  | _, [] => true
  | lo, (a, v) :: rest =>
    decide (lo ≤ a) && decide (a < Config.registerBase) && decide (v ≠ 0) && Window.risingFrom (a + 1) rest

/-- The canonical form of the window's memory words. -/
def Window.wf (w : Window) : Bool := Window.risingFrom 0 w

/-- A memory word of the window. -/
def State.readMem (s : State) (addr : Nat) : Word := s.window.read addr

/-- The part or the host writes consecutive memory words. -/
def State.writeMem (s : State) (addr : Nat) (vs : List Word) : State :=
  { s with window := s.window.writeAll addr vs }

/-- First word of job cell n: n × 32 (section 1.1). -/
def cellBase (c : CellNo) : Nat := c.val * 32

/-- First word of slot s's map staging area: 0x0200 + (s - 1) × 128 (section 1.1). -/
def stagingBase (i : Slot) : Nat := 0x0200 + (i.number - 1) * 128

/-- First word of a page: source n at 0x0600 + n × 64, the cabinet page at 0x0840 (section 1.1). -/
def pageBase : PageId → Nat
  | .source s => 0x0600 + s.number * 64
  | .cabinet => 0x0840

/-! ### Marks, notices and intake faults (R4, R7, R14) -/

/-- The page with its mark set. -/
def Page.marked (p : Page) : Page := { p with mark := true }

/-- The page with its mark set when `b` holds. -/
def Page.markIf (p : Page) (b : Bool) : Page := { p with mark := p.mark || b }

/-- The page writer's record of a page. -/
def Pages.get (p : Pages) : PageId → Page
  | .source s => p.source.get s
  | .cabinet => p.cabinet

/-- The page writer's record of one page replaced. -/
def Pages.set (p : Pages) (id : PageId) (q : Page) : Pages :=
  match id with
  | .source s => { p with source := p.source.set s q }
  | .cabinet => { p with cabinet := q }

/-- A page marked for update (R14). -/
def State.mark (s : State) (id : PageId) : State :=
  { s with pages := s.pages.set id (s.pages.get id).marked }

/-- The cabinet page marked for update. -/
def State.markCabinet (s : State) : State := s.mark .cabinet

/-- A source page marked for update. -/
def State.markSource (s : State) (src : Source) : State := s.mark (.source src)

/-- All ten pages marked for update (R17). -/
def State.markAll (s : State) : State :=
  { s with pages := { source := PerSource.ofFn fun src => (s.pages.source.get src).marked,
                      cabinet := s.pages.cabinet.marked } }

/-- The part sets notice bit n (R4). -/
def State.setNotice (s : State) (n : Nat) : State :=
  { s with intake.notice := s.intake.notice ||| (1#16 <<< n) }

/-- An intake fault (R7): recorded, NOTICE bit 11, the cabinet page marked whether or not the record changed. -/
def State.intakeFault (s : State) (c : CellNo) (reason : IntakeFault) : State :=
  { (s.setNotice 11).markCabinet with intake.faultCell := c.val, intake.faultReason := reason }

/-! ### Job cells (section 1.3) -/

/-- The sixteen job cells in ascending number. -/
def allCells : List CellNo := [0, 1, 2, 3, 4, 5, 6, 7, 8, 9, 10, 11, 12, 13, 14, 15]

/-- The state of a job cell. -/
def State.cell (s : State) (c : CellNo) : CellState := s.intake.cells[c.val]

/-- The state of a job cell replaced. -/
def State.setCell (s : State) (c : CellNo) (st : CellState) : State :=
  { s with intake.cells := s.intake.cells.set c.val st }

/-- The result codes (section 1.8). -/
inductive Result where
  | ok | unknownKind | badParam | busy | noBoard | undescribed | noBudget | outOfRange | targetFailed | superseded
  | aborted | tooLate | nothingToAbort | inUse | busNack | writeTimeout | protect | badMap | notOnAir | startTimeout
  | fault
deriving DecidableEq, Repr

/-- The code written in word 16 (section 1.8). -/
def Result.code : Result → Nat
  | .ok => 0 | .unknownKind => 1 | .badParam => 2 | .busy => 3 | .noBoard => 4 | .undescribed => 5 | .noBudget => 6
  | .outOfRange => 7 | .targetFailed => 8 | .superseded => 9 | .aborted => 10 | .tooLate => 11 | .nothingToAbort => 12
  | .inUse => 13 | .busNack => 14 | .writeTimeout => 15 | .protect => 16 | .badMap => 17 | .notOnAir => 18
  | .startTimeout => 19 | .fault => 20

/-- The sixteen result words: code, detail, data, and 0 in the words not used (R10, R12). -/
def resultWords (r : Result) (detail : Nat) (data : List Nat) : List Word :=
  (r.code :: detail :: (data ++ List.replicate 14 0).take 14).map (BitVec.ofNat 16)

/-- An owner completes the job of a cell (R10): it writes words 16 to 31 and the TAKEN cell becomes DONE. A cell that
is not TAKEN holds no job of an owner: nothing is written. -/
def State.complete (s : State) (c : CellNo) (r : Result) (detail : Nat) (data : List Nat) : State :=
  if s.cell c = .taken then (s.writeMem (cellBase c + 16) (resultWords r detail data)).setCell c .done else s

/-! ### The mtick counter (R65) -/

/-- How far `t` lies after `u`, modulo 2^32. -/
def ticksFrom (u t : Stamp) : Nat := (t - u).toNat

/-- Whether `t` lies at or after `u`, reading the 32-bit counter as the nearer of the two directions. -/
def reached (u t : Stamp) : Bool := decide (ticksFrom u t < 0x80000000)

/-- The instant of the ms tick after the one at `t`. -/
def nextTick (t : Stamp) : Stamp := t + BitVec.ofNat 32 Config.mticksPerMs

/-- The counter runs on to `t` when `t` lies ahead of it; it never runs back (assumption 9). -/
def State.advanceTo (s : State) (t : Stamp) : State :=
  if reached s.sync.mtick t then { s with sync.mtick := t } else s

end Machine

end Sys2Proof
end

