-- ==== Sys2Proof/Machine/Operands.lean ====
section
/-! DEFINITION. What the part reads: a job's request words at its take, a slot's map staging area, a descriptor's bytes,
and the packing of text and EEPROM bytes into words. -/

namespace Sys2Proof.Machine

/-! ### Jobs at the take (R8, R9) -/

/-- The copy of a job: its cell and words 0 to 15 as they stood at the take. -/
structure Job where
  cell : CellNo
  words : List Word
deriving DecidableEq, Repr

/-- A request word as a number. -/
def Job.word (j : Job) (k : Nat) : Nat := (j.words.getD k 0).toNat

/-- A flag bit of a request word. -/
def Job.bit (j : Job) (k n : Nat) : Bool := (j.words.getD k 0).getLsbD n

/-- The copy the intake makes of a cell (R8). -/
def State.jobAt (s : State) (c : CellNo) : Job :=
  { cell := c, words := (List.range 16).map fun k => s.readMem (cellBase c + k) }

/-- The job the intake would take: the head of the intake list, when no soft restart is in progress (R8). -/
def State.headJob (s : State) : Option Job :=
  if s.intake.restarting then none else s.intake.list.head?.map s.jobAt

/-- The intake takes a cell (R8): it leaves the head of the list and becomes TAKEN. -/
def State.take (s : State) (c : CellNo) : State :=
  { s.setCell c .taken with intake.list := s.intake.list.tail }

/-- The intake takes the head job when it is one of the row's (`due`), and the owner acts on it; otherwise the row's
event does not come about and nothing changes (assumption 5). -/
def State.takeIf (s : State) (due : Job → Bool) (act : Job → State → State) : State :=
  match s.headJob with
  | none => s
  | some j => if due j then act j (s.take j.cell) else s

/-- A job of kind `k` (R9: the kind is the whole of word 0). -/
def Job.isKind (k : Nat) (j : Job) : Bool := decide (j.word 0 = k)

/-- A POWER job with the row's action, or with an action out of range, which any POWER row completes (R40). -/
def Job.isPower (action : Nat) (j : Job) : Bool :=
  j.isKind 3 && (decide (j.word 3 = action) || decide (4 < j.word 3))

/-- A CREDIT job with the row's action, or with an action out of range (R171). -/
def Job.isCredit (action : Nat) (j : Job) : Bool :=
  j.isKind 5 && (decide (j.word 2 = action) || decide (3 < j.word 2))

/-- A SETUP job of the row's group (R9). -/
def Job.isSetup (group : Nat) (j : Job) : Bool := j.isKind 7 && decide (j.word 2 = group)

/-- A word 0 that is no kind: outside 0x0001 to 0x000A (R9). -/
def Job.isUnknown (j : Job) : Bool := decide (j.word 0 < 1) || decide (10 < j.word 0)

/-- A SETUP job whose group is above 4 (R9). -/
def Job.isBadGroup (j : Job) : Bool := j.isKind 7 && decide (4 < j.word 2)

/-- The copy of a SWITCH request with its target (section 6.2). -/
def Job.toSwitch (j : Job) (target : Source) : SwitchJob where
  cell := j.cell
  target := target
  carry := j.word 3
  feed := j.bit 4 0
  evict := j.bit 4 1
  pin := j.bit 4 2

/-! ### Packing (R19) -/

/-- Two bytes in a word, the first in the low byte. -/
def packPair (lo hi : Byte) : Nat := lo.toNat + 256 * hi.toNat

/-- Bytes packed two per word, the first in the low byte; an odd last byte leaves the high byte 0. -/
def packBytes : List Byte → List Nat
  | [] => []
  | [b] => [packPair b 0]
  | b :: c :: rest => packPair b c :: packBytes rest

/-- The low byte and then the high byte of each word. -/
def unpackWords : List Nat → List Byte
  | [] => []
  | w :: rest => BitVec.ofNat 8 w :: BitVec.ofNat 8 (w / 256) :: unpackWords rest

/-- The data bytes of an EEPROM_WRITE: request words 5 to 8, the first byte in the low byte of word 5 (R58). -/
def Job.writeData (j : Job) : List Byte :=
  (unpackWords [j.word 5, j.word 6, j.word 7, j.word 8]).take (j.word 4)

/-- The low and high word of a 32-bit field, low word first (R19). -/
def words32 (c : Count32) : List Word := [c.setWidth 16, (c >>> 16).setWidth 16]

/-! ### The map staging area (R145, R146) -/

/-- The words of entry k of a staging area, split into their fields. -/
structure RawEntry where
  first : Nat
  last : Nat
  pin : Nat
  mode : Nat
  time1 : Nat
  time2 : Nat
deriving DecidableEq, Repr

/-- Entry k of the staging area at `base`: words 4 + 4k to 7 + 4k. -/
def State.stagedEntry (s : State) (base k : Nat) : RawEntry :=
  let w (n : Nat) : Nat := (s.readMem (base + 4 + 4 * k + n)).toNat
  { first := w 0 % 256, last := w 0 / 256, pin := w 1 % 256, mode := w 1 / 256, time1 := w 2, time2 := w 3 }

/-- A time of an entry, 1 to 255 ms. -/
def timeOk (t : Nat) : Bool := decide (1 ≤ t) && decide (t ≤ 255)

/-- The field code of the first check of R146 that an entry fails, for a board with `pins` pins; none when it passes. -/
def RawEntry.failure (pins : Nat) (e : RawEntry) : Option Nat :=
  if ¬ (e.first ≤ e.last ∧ e.last ≤ 31) then some 1
  else if ¬ (e.pin + (e.last - e.first) < pins) then some 2
  else if 3 < e.mode then some 3
  else if e.mode = 2 ∧ timeOk e.time1 = false then some 4
  else if e.mode = 3 ∧ (timeOk e.time1 && timeOk e.time2) = false then some 5
  else none

/-- The mode of a validated entry. -/
def RawEntry.toMode (e : RawEntry) : EntryMode :=
  if e.mode = 0 then .direct else if e.mode = 1 then .invert else if e.mode = 2 then .pulse e.time1
  else .autofire e.time1 e.time2

/-- A validated entry. -/
def RawEntry.toEntry (e : RawEntry) : MapEntry := { first := e.first, last := e.last, pin := e.pin, mode := e.toMode }

/-- The detail of the first failing entry from index k on: index in the low byte, field code in the high byte (R146). -/
def firstBadEntry (pins : Nat) : Nat → List RawEntry → Option Nat
  | _, [] => none
  | k, e :: rest =>
    match e.failure pins with
    | some code => some (k + 256 * code)
    | none => firstBadEntry pins (k + 1) rest

/-- The staged map of a slot as the router judges it (R146): the BAD_MAP detail, or the validated map. -/
def State.stagedMap (s : State) (i : Slot) (pins : Nat) : Nat ⊕ ControlMap :=
  let base := stagingBase i
  let count := (s.readMem base).toNat
  if 24 < count then .inl 255
  else
    let raw := (List.range count).map (s.stagedEntry base)
    match firstBadEntry pins 0 raw with
    | some detail => .inl detail
    | none => .inr { label := s.readMem (base + 1), entries := raw.map RawEntry.toEntry }

/-! ### The descriptor (R54) -/

/-- Byte k of the bytes read, as a number. -/
def byteAt (bytes : List Byte) (k : Nat) : Nat := (bytes.getD k 0).toNat

/-- The window value of a window byte: b for 128 to 255, b + 256 for 0 to 127 (R54). -/
def windowValue (b : Nat) : Nat := if b < 128 then b + 256 else b

/-- The index of the first name byte that is not printable ASCII, from byte 6 upward (R54, check 5). -/
def badNameByte (bytes : List Byte) : Option Nat :=
  ((List.range 12).map (· + 6)).find? fun k =>
    decide (byteAt bytes k < 0x20) || decide (0x7E < byteAt bytes k)

/-- A byte outside lo to hi. -/
def outside (bytes : List Byte) (k lo hi : Nat) : Bool :=
  decide (byteAt bytes k < lo) || decide (hi < byteAt bytes k)

/-- The field checks of R54 after the name, in order: byte index and whether the byte fails. -/
def fieldChecks (bytes : List Byte) : List (Nat × Bool) :=
  [(18, outside bytes 18 1 255), (19, outside bytes 19 1 255), (20, outside bytes 20 10 255),
   (21, outside bytes 21 10 255), (22, outside bytes 22 10 255), (23, outside bytes 23 1 31),
   (24, decide (windowValue (byteAt bytes 24) < 128) || decide (383 < windowValue (byteAt bytes 24))),
   (25, decide (windowValue (byteAt bytes 25) < 128) || decide (383 < windowValue (byteAt bytes 25)) ||
        decide (windowValue (byteAt bytes 25) < windowValue (byteAt bytes 24))),
   (27, outside bytes 27 0 7), (28, outside bytes 28 1 50), (29, decide (1 < byteAt bytes 29)),
   (30, outside bytes 30 16 48)]

/-- The sum of the bytes modulo 256 (R54, check 3). -/
def checksum (bytes : List Byte) : Nat := (bytes.map BitVec.toNat).sum % 256

/-- The undescribed reason of the first failing check of R54; none when validation passes. -/
def descriptorFailure (bytes : List Byte) : Option Undescribed :=
  if ¬ (byteAt bytes 0 = 0x47 ∧ byteAt bytes 1 = 0x44) then some .signature
  else if byteAt bytes 2 ≠ 1 then some .version
  else if checksum bytes ≠ 0 then some .checksum
  else if outside bytes 3 1 15 then some (.field 3)
  else
    match badNameByte bytes with
    | some k => some (.field k)
    | none => ((fieldChecks bytes).find? fun c => c.2).map fun c => .field c.1

/-- The fields of a validated descriptor (section 1.8). -/
def descriptorOf (bytes : List Byte) : Descriptor where
  drawClass := byteAt bytes 3
  title := 256 * byteAt bytes 4 + byteAt bytes 5
  name := (bytes.drop 6).take 12
  settle := byteAt bytes 18
  startTimeout := byteAt bytes 19
  grace := byteAt bytes 20
  coinOn := byteAt bytes 21
  coinOff := byteAt bytes 22
  pulseCap := byteAt bytes 23
  windowLow := windowValue (byteAt bytes 24)
  windowHigh := windowValue (byteAt bytes 25)
  ratio := byteAt bytes 26
  allowance := byteAt bytes 27
  cool := byteAt bytes 28
  activeHigh := decide (byteAt bytes 29 % 2 = 1)
  pinCount := byteAt bytes 30

end Sys2Proof.Machine
end

