-- ==== Sys2Proof/Machine/Flags.lean ====
section
/-! DEFINITION. What is computed from the state: the register views and ATTN, the slots' lines and the powered draw, the
lockout and jam flags, the pin levels, the monitor output, and the words of the status pages. -/

namespace Sys2Proof.Machine

/-! ### Slots and the supply (R21) -/

/-- The powered states (R21). -/
def SlotState.powered : SlotState → Bool
  | .settling | .starting | .running | .onAir | .lost => true
  | .empty | .loading | .undescribed | .off | .cooling | .fault => false

/-- The states in which the reset line is released (R21). -/
def SlotState.resetReleased : SlotState → Bool
  | .starting | .running | .onAir | .lost => true
  | .empty | .loading | .undescribed | .off | .settling | .cooling | .fault => false

/-- The state code of a source page (section 1.8). -/
def SlotState.code : SlotState → Nat
  | .empty => 0 | .loading => 1 | .undescribed => 2 | .off => 3 | .settling => 4 | .starting => 5 | .running => 6
  | .onAir => 7 | .lost => 8 | .cooling => 9 | .fault => 10

/-- A slot's record. -/
def State.slot (s : State) (i : Slot) : SlotRec := s.slots.get i

/-- A slot's descriptor copy. -/
def State.copy (s : State) (i : Slot) : Option Descriptor := s.bus.copies.get i

/-- A slot's draw class; 0 without a descriptor copy (R25). -/
def State.drawClass (s : State) (i : Slot) : Nat :=
  match s.copy i with
  | some d => d.drawClass
  | none => 0

/-- What a slot adds to the powered draw. -/
def State.slotDraw (s : State) (i : Slot) : Nat := if (s.slot i).state.powered then s.drawClass i else 0

/-- The powered draw: the sum of the draw classes of the slots in powered states (R21). -/
def State.draw (s : State) : Nat := (Slot.all.map s.slotDraw).sum

/-- The supply switch of a slot (R21). -/
def State.supplyOn (s : State) (i : Slot) : Bool := (s.slot i).state.powered

/-- The reset line of a slot, `true` for asserted (R21). -/
def State.resetAsserted (s : State) (i : Slot) : Bool := !(s.slot i).state.resetReleased

/-- The failure reason codes (section 1.8). -/
def FailReason.code : FailReason → Nat
  | .none => 0 | .removed => 1 | .overcurrent => 2 | .startTimeout => 3 | .lost => 4 | .outOfRange => 5 | .chord => 6
  | .restart => 7 | .noBudget => 8

/-- The undescribed reason in the low byte and, for FIELD, the byte index in the high byte (R12, section 1.8). -/
def Undescribed.detail : Undescribed → Nat
  | .none => 0 | .busNack => 1 | .signature => 2 | .version => 3 | .checksum => 4 | .field index => 5 + 256 * index

/-- The intake fault reason codes (R7). -/
def IntakeFault.code : IntakeFault → Nat
  | .none => 0 | .cellBusy => 1 | .restarting => 2

/-- A mask with bit s for slot s (R29). -/
def slotBit (i : Slot) : Word := 1#16 <<< i.number

/-- The mask of a list of slots (R29). -/
def maskOf : List Slot → Word
  | [] => 0
  | i :: rest => slotBit i ||| maskOf rest

/-! ### Registers and ATTN (R3, R5) -/

/-- Bit n for each cell n whose state satisfies `p`. -/
def cellBits (s : State) (p : CellState → Bool) : Word :=
  allCells.foldl (fun w c => if p (s.cell c) then w ||| (1#16 <<< c.val) else w) 0

/-- POST as read: bit n is 1 while cell n is POSTED or TAKEN (R3). -/
def State.postView (s : State) : Word := cellBits s fun c => decide (c = .posted) || decide (c = .taken)

/-- DONE as read: bit n is 1 while cell n is DONE (R3). -/
def State.doneView (s : State) : Word := cellBits s fun c => decide (c = .done)

/-- Whether ATTN is asserted (R5). -/
def State.attn (s : State) : Bool :=
  (s.intake.mask.getLsbD 15 && decide (s.doneView ≠ 0)) || decide (s.intake.notice &&& s.intake.mask &&& 0x1FFF ≠ 0)

/-- A register as read (R3). -/
def State.readRegister (s : State) : Register → Word
  | .post => s.postView
  | .done => s.doneView
  | .notice => s.intake.notice
  | .noticeMask => s.intake.mask
  | .control => if s.intake.restarting then 1 else 0
  | .ident => Config.ident

/-- The register at a window address (R3). -/
def registerAt : Nat → Option Register
  | 0x1FFA => some .post
  | 0x1FFB => some .done
  | 0x1FFC => some .notice
  | 0x1FFD => some .noticeMask
  | 0x1FFE => some .control
  | 0x1FFF => some .ident
  | _ => none

/-- What the host reads at a window address: a register or a memory word (R1, R3). -/
def State.readWindow (s : State) (addr : BitVec 13) : Word :=
  match registerAt addr.toNat with
  | some r => s.readRegister r
  | none => s.readMem addr.toNat

/-! ### Other output lines -/

/-- The coin lockout output (R163). -/
def Credit.lockout (c : Credit) : Bool := decide (c.setup.lockoutLevel ≤ c.bank)

/-- The jam flag: set while at least one coin line is jammed (R160). -/
def Credit.jam (c : Credit) : Bool := decide (c.coinA = .jammed) || decide (c.coinB = .jammed)

/-- Whether a pulse holds its output at the active level. -/
def Pulse.active : Pulse → Bool
  | .on _ _ => true
  | .off _ => false

/-- The level of a slot's coin pin, `true` for high; idle high without a descriptor copy (R166). That a pulse in flight when a
reload clears the copy is not seen on the pin, and runs on with the new copy's polarity, is the model's choice
(assumption 47). -/
def State.coinPinHigh (s : State) (i : Slot) : Bool :=
  match s.copy i with
  | none => true
  | some d =>
    match s.credit.pulses.get i with
    | some p => if p.active then d.activeHigh else !d.activeHigh
    | none => !d.activeHigh

/-- The meter output, `true` for driven (R169). -/
def State.meterDriven (s : State) : Bool :=
  match s.credit.meter with
  | some p => p.active
  | none => false

/-- Whether a pin of a slot stands at its active level: only pins of the driven slot can (R150). -/
def State.pinActive (s : State) (i : Slot) (pin : Fin 48) : Bool :=
  decide (s.router.driven = some i) && s.router.activePins.getLsbD pin.val

/-- The level of a board input pin, `true` for high (R150): active-low without a descriptor copy. -/
def State.pinHigh (s : State) (i : Slot) (pin : Fin 48) : Bool :=
  let high := match s.copy i with
    | some d => d.activeHigh
    | none => false
  if s.pinActive i pin then high else !high

/-- The slot switch connects the branch of the request whose transaction is in flight, and no other (R47). -/
def State.branch (s : State) : Option Slot :=
  match s.bus.phase with
  | .idle => none
  | .reading | .writing | .polling _ _ => s.bus.queue.head?.map BusRequest.slot

/-- What a monitor sync output carries: a source's own input, the rest level (high), or the holding raster's sync,
low during its pulse (R83, R85). -/
inductive SyncOut where
  | ofSource (src : Source) (input : SyncInput)
  | rest
  | holding (low : Bool)
deriving DecidableEq, Repr

/-- The width in mticks of the hsync pulse of a holding line of `len` mticks (R85). -/
def hsyncWidth (len : Nat) : Nat := len * 3 / 40

/-- Whether the holding hsync is low: within the first `hsyncWidth` mticks of the line (R85). -/
def State.holdingHsyncLow (s : State) : Bool :=
  s.raster.lineBegun && decide (ticksFrom s.raster.lineStart s.sync.mtick < hsyncWidth s.raster.lineLength)

/-- Whether the holding vsync is low: during lines 1 to 3 of the frame (R85). -/
def State.holdingVsyncLow (s : State) : Bool := s.raster.lineBegun && decide (s.raster.lineIndex ≤ 3)

/-- The monitor's horizontal sync output (R83). -/
def State.monitorHsync (s : State) : SyncOut :=
  match s.raster.mode, s.raster.crosspoint with
  | .pass, some src => .ofSource src .horizontal
  | _, _ => .holding s.holdingHsyncLow

/-- The monitor's vertical sync output (R83): at rest for a slot in PASS. -/
def State.monitorVsync (s : State) : SyncOut :=
  match s.raster.mode, s.raster.crosspoint with
  | .pass, some .menu => .ofSource .menu .vertical
  | .pass, some (.slot _) => .rest
  | _, _ => .holding s.holdingVsyncLow

/-- The source whose colour the monitor shows; none for black (R83). -/
def State.monitorColour (s : State) : Option Source :=
  match s.raster.mode with
  | .pass => s.raster.crosspoint
  | .hold => none

/-- The audio output: the selected input and the numerator of its gain over 255; none for silence (R176). -/
def State.audioOut (s : State) : Option (Source × Nat) := s.audio.crosspoint.map fun src => (src, s.audio.current)

/-! ### The status pages (R13, R15, R19, R20, section 1.8) -/

/-- A flag field: 1 for set (R19). -/
def flag (b : Bool) : Nat := if b then 1 else 0

/-- A source field: 0 to 8, or 15 for NONE (R19). -/
def sourceField : Option Source → Nat
  | some s => s.number
  | none => 15

/-- The phase codes of the cabinet page. -/
def Phase.code : Phase → Nat
  | .quiet => 0 | .prepare => 1 | .fadeOut => 2 | .release => 3 | .waitTarget => 4 | .glide => 5 | .align => 6
  | .fadeIn => 7

/-- The kind codes of the cabinet page. -/
def Kind.code : Kind → Nat
  | .none => 0 | .requested => 1 | .fallback => 2 | .recovery => 3

/-- The state field of a source page; source 0 reads ON_AIR while on air and RUNNING otherwise (R15). -/
def State.stateCode (s : State) : Source → Nat
  | .menu => if s.ho.onAir = some .menu then 7 else 6
  | .slot i => (s.slot i).state.code

/-- The line-period window of a source in 16ths: the monitor window for source 0, the descriptor's for a slot (R67);
none for a slot without a descriptor copy. -/
def State.window? (s : State) : Source → Option (Nat × Nat)
  | .menu => some (s.raster.pMin, s.raster.pMax)
  | .slot i => (s.copy i).map fun d => (d.windowLow * 64, d.windowHigh * 64)

/-- Words 4 to 18 of a source page as numbers: title, draw class, name, descriptor timing fields; 0 without a copy. -/
def descriptorWords : Option Descriptor → List Nat
  | none => List.replicate 15 0
  | some d =>
    [d.title, d.drawClass] ++ (packBytes d.name ++ List.replicate 6 0).take 6 ++
      [d.settle, d.startTimeout, d.grace, d.cool, d.coinOn, d.coinOff, d.pulseCap]

/-- The fields of a slot's page that its owners show, other than measurement and flags: words 3 to 21. -/
def State.headWords (s : State) : Source → List Nat
  | .menu => 0 :: descriptorWords none ++ [s.raster.pMin, s.raster.pMax, 0]
  | .slot i =>
    let w := (s.window? (.slot i)).getD (0, 0)
    (s.slot i).reason.code :: descriptorWords (s.copy i) ++ [w.1, w.2, (s.slot i).restarts]

/-- Words 29 to 35 of a source page. -/
def State.tailWords (s : State) : Source → List Word
  | .menu => [0, 0, 0, 0, 0, BitVec.ofNat 16 s.audio.ratios.menu, 0]
  | .slot i =>
    BitVec.ofNat 16 (s.credit.pending.get i) :: words32 (s.credit.delivered.get i) ++
      [BitVec.ofNat 16 (s.router.maps.get i).entries.length, (s.router.maps.get i).label,
       BitVec.ofNat 16 (s.audio.ratios.slots.get i), BitVec.ofNat 16 (s.bus.undescribed.get i).detail]

/-- The pinned and stale bits of a source page's flags. -/
def State.ownerFlags (s : State) : Source → Nat
  | .menu => 0
  | .slot i => flag (s.slot i).pinned + 2 * flag (s.bus.stale.get i)

/-- A source's measurement record. -/
def State.record (s : State) (src : Source) : SyncRec := s.sync.records.get src

/-- The measurement bits of a source page's flags: stable, interlaced, polarity. -/
def SyncRec.flags (r : SyncRec) : Nat := 4 * flag r.stable + 8 * flag r.interlaced + 16 * flag r.horizontalPositive

/-- Words 22 to 28 of a source page: the measurement fields. -/
def SyncRec.measured (r : SyncRec) : List Word :=
  [BitVec.ofNat 16 r.p, BitVec.ofNat 16 r.l, BitVec.ofNat 16 r.stableCount] ++ words32 r.frameTime ++
    [BitVec.ofNat 16 r.lastP, BitVec.ofNat 16 r.lastL]

/-- The fields of a source page whose change marks it: all but the measurement fields (R14). -/
def State.sourceShown (s : State) (src : Source) : List Word :=
  [BitVec.ofNat 16 (s.stateCode src), BitVec.ofNat 16 (s.ownerFlags src)] ++
    (s.headWords src).map (BitVec.ofNat 16) ++ s.tailWords src

/-- Words 1 to 63 of a source page. -/
def State.sourceWords (s : State) (src : Source) : List Word :=
  [BitVec.ofNat 16 (s.stateCode src), BitVec.ofNat 16 (s.ownerFlags src + (s.record src).flags)] ++
    (s.headWords src).map (BitVec.ofNat 16) ++ (s.record src).measured ++ s.tailWords src ++ List.replicate 28 0

/-- Words 1 to 42 of the cabinet page: every field it shows. -/
def State.cabinetShown (s : State) : List Word :=
  [sourceField s.ho.onAir, s.ho.phase.code, s.ho.kind.code, sourceField s.ho.outgoing, sourceField s.ho.target,
    flag (decide (s.raster.mode = .hold)), s.raster.p, s.raster.l, s.ho.lastFallback.code].map (BitVec.ofNat 16) ++
  words32 s.router.inputs ++
  [flag s.router.sampledA + 2 * flag s.router.sampledB + 4 * flag s.router.service + 8 * flag s.router.operatorKey,
    flag s.router.chordFreeze, s.credit.bank].map (BitVec.ofNat 16) ++
  words32 s.credit.coins ++ words32 s.credit.granted ++ words32 s.credit.withdrawn ++ words32 s.credit.unbanked ++
  words32 s.credit.deliveredTotal ++
  ([s.credit.meterPending, flag s.credit.jam, flag s.credit.lockout, s.draw, s.budget] ++
    (s.warm.map Slot.number ++ List.replicate 8 0).take 8 ++
    [s.bus.queue.length, s.intake.faultCell, s.intake.faultReason.code, s.audio.current,
      s.audio.target]).map (BitVec.ofNat 16)

/-- Words 1 to 63 of a page. -/
def State.pageWords (s : State) : PageId → List Word
  | .source src => s.sourceWords src
  | .cabinet => s.cabinetShown ++ List.replicate 21 0

/-- The marks after a step that took `old` to `new`: a page whose shown fields changed is marked (R14). -/
def remarkPages (old new : State) : Pages where
  source := PerSource.ofFn fun src =>
    (new.pages.source.get src).markIf (decide (old.sourceShown src ≠ new.sourceShown src))
  cabinet := new.pages.cabinet.markIf (decide (old.cabinetShown ≠ new.cabinetShown))

/-- The end of every command: the pages whose shown fields it changed are marked (R14), and the next state answered. -/
def finish (old new : State) : Host.Outcome State Fault Refusal :=
  .next { new with pages := remarkPages old new }

end Sys2Proof.Machine
end

