-- ==== Sys2Proof/Machine/Audio.lean ====
section
/-! DEFINITION. The audio level unit (chapter 10): target level, crosspoint, ramp and forced mute. -/

namespace Sys2Proof.Machine

/-- The level of a source with ratio r under master M and floor F (R178). -/
def levelFormula (m r f : Nat) : Nat :=
  if m = 0 then 0 else if (m * r + 127) / 255 < f then f else (m * r + 127) / 255

/-- The target level as the table of R178 gives it. -/
def State.audioTarget (s : State) : Nat :=
  match s.audio.wanted with
  | none => 0
  | some src =>
    if s.ho.phase = .fadeOut ∨ s.ho.phase = .release then 0
    else if s.audio.crosspoint ≠ some src then 0
    else levelFormula s.audio.master (s.audio.ratios.get src) s.audio.floor

/-- The target recomputed; with R = 0 the current level takes it at once (R178, R179). -/
def State.retarget (s : State) : State :=
  { s with audio.target := s.audioTarget,
           audio.current := if s.audio.ramp = 0 then s.audioTarget else s.audio.current }

/-- The crosspoint takes the wanted selection when the two differ and the level is 0, and the target is recomputed for
the change (R176, R178). -/
def State.crossover (s : State) : State :=
  if s.audio.crosspoint ≠ s.audio.wanted ∧ s.audio.current = 0 then
    { s with audio.crosspoint := s.audio.wanted }.retarget
  else s

/-- A change of an input of the target level (R178). -/
def State.recomputeAudio (s : State) : State := s.retarget.crossover

/-- The on-air source announced to the unit becomes the wanted selection (R176). -/
def State.setWanted (s : State) (src : Option Source) : State := { s with audio.wanted := src }.recomputeAudio

/-- Forced mute as a source leaves the air: the level is 0 first, and the crosspoint then leaves the source (R181). -/
def State.muteAndLeave (s : State) : State := { s with audio.current := 0, audio.wanted := none }.recomputeAudio

/-- A source's ratio set; the target is recomputed when the source is the one on air (R177, R178). -/
def State.setRatio (s : State) (src : Source) (r : Nat) : State :=
  let t := { s with audio.ratios := s.audio.ratios.set src r }
  if s.audio.wanted = some src then t.recomputeAudio else t

/-- A level moved toward its target by at most R (R179). -/
def rampToward (current target r : Nat) : Nat :=
  if current < target then min target (current + r) else max target (current - r)

/-- Whether a ramp step is due at an ms tick: the levels differ and there is a ramp (R179). -/
def State.rampDue (s : State) : Bool := decide (s.audio.current ≠ s.audio.target) && decide (s.audio.ramp ≠ 0)

/-- One ramp step (R179), and the crosspoint's change if it brings the level to 0 (R176). -/
def State.rampOnce (s : State) : State :=
  { s with audio.current := rampToward s.audio.current s.audio.target s.audio.ramp }.crossover

end Sys2Proof.Machine
end

