-- ==== Sys2Proof/Machine/Credit.lean ====
section
/-! DEFINITION. The credit unit (chapter 9): routing of units, the bank, the feeds, carry and the coin lines. -/

namespace Sys2Proof.Machine

/-- A slot's pulse cap, from its descriptor copy (R166); 0 without one. -/
def State.pulseCap (s : State) (i : Slot) : Nat :=
  match s.copy i with
  | some d => d.pulseCap
  | none => 0

/-- The slot whose pending pulses a unit may join: on air in QUIET with its feed open and room below its cap (R162). -/
def State.feedingSlot (s : State) : Option Slot :=
  match s.ho.onAir with
  | some (.slot i) =>
    if s.ho.phase = .quiet ∧ s.credit.feed.get i = true ∧ s.credit.pending.get i < s.pulseCap i then some i else none
  | _ => none

/-- A unit goes to the bank, or to the unbanked total when the bank is full (R162). -/
def Credit.bankUnit (c : Credit) : Credit :=
  if c.bank < Config.bankMax then { c with bank := c.bank + 1 } else { c with unbanked := c.unbanked + 1 }

/-- A unit goes to a slot's pending pulses (R162). -/
def Credit.pendUnit (i : Slot) (c : Credit) : Credit := { c with pending := c.pending.set i (c.pending.get i + 1) }

/-- One unit is routed (R162). -/
def State.routeUnit (s : State) : State :=
  match s.feedingSlot with
  | some i => { s with credit := s.credit.pendUnit i }
  | none => { s with credit := s.credit.bankUnit }

/-- One unit of a counted coin (R161): the coins total and the meter pending count rise, and the unit is routed. -/
def State.coinUnit (s : State) : State :=
  { s with credit.coins := s.credit.coins + 1,
           credit.meterPending := min Config.meterMax (s.credit.meterPending + 1) }.routeUnit

/-- A coin worth `n` units, routed one at a time (R161). -/
def State.coinUnits : Nat → State → State
  | 0, s => s
  | n + 1, s => State.coinUnits n s.coinUnit

/-- A service activation brings one unit, counted in the granted total (R161). -/
def State.serviceUnit (s : State) : State := { s with credit.granted := s.credit.granted + 1 }.routeUnit

/-- `n` units returned to the bank while it stands below 9999, the rest to the unbanked total (R167). -/
def Credit.returnUnits (n : Nat) (c : Credit) : Credit :=
  { c with bank := c.bank + min n (Config.bankMax - c.bank),
           unbanked := c.unbanked + BitVec.ofNat 32 (n - min n (Config.bankMax - c.bank)) }

/-- A slot's pending pulses returned; they become 0 (R167, R173). -/
def Credit.returnPending (i : Slot) (c : Credit) : Credit :=
  let n := c.pending.get i
  { c with pending := c.pending.set i 0 }.returnUnits n

/-- A slot's feed closed or opened (R165). -/
def Credit.setFeed (i : Slot) (b : Bool) (c : Credit) : Credit := { c with feed := c.feed.set i b }

/-- A slot leaves the air: its feed closes and its pending pulses are returned; a pulse in flight runs on (R167). -/
def State.leaveAir (s : State) (i : Slot) : State :=
  { s with credit := (s.credit.setFeed i false).returnPending i }

/-- Removal: the slot leaves the air and a pulse in flight is cut; pulses delivered are kept (R168). -/
def State.removeCredit (s : State) (i : Slot) : State :=
  { s.leaveAir i with credit.pulses := s.credit.pulses.set i none }

/-- `n` units moved from the bank to a slot's pending pulses. -/
def Credit.moveToPending (i : Slot) (n : Nat) (c : Credit) : Credit :=
  { c with bank := c.bank - n, pending := c.pending.set i (c.pending.get i + n) }

/-- The units that a carry or a DELIVER of `n` moves: bounded by the bank and by the room below the cap (R170, R172). -/
def State.movable (s : State) (i : Slot) (n : Nat) : Nat :=
  min n (min s.credit.bank (s.pulseCap i - s.credit.pending.get i))

/-- Up to `n` units moved from the bank to a slot's pending pulses. -/
def State.moveUnits (s : State) (i : Slot) (n : Nat) : State :=
  { s with credit := s.credit.moveToPending i (s.movable i n) }

/-- The carry at a cut onto a slot (R170): the count becomes at most the cap, and the movable units move. -/
def State.carryUnits (s : State) (i : Slot) (c : Nat) : Nat := s.movable i (min c (s.pulseCap i))

/-- The measurement of one coin line. -/
def Credit.line (c : Credit) : CoinLine → CoinMeasure
  | .a => c.coinA
  | .b => c.coinB

/-- The measurement of one coin line replaced. -/
def Credit.setLine (l : CoinLine) (m : CoinMeasure) (c : Credit) : Credit :=
  match l with
  | .a => { c with coinA := m }
  | .b => { c with coinB := m }

/-- The value of a coin line in units (R161). -/
def CoinSetup.value (c : CoinSetup) : CoinLine → Nat
  | .a => c.valueA
  | .b => c.valueB

/-- A pulse width that makes a coin: from the minimum to the maximum (R160). -/
def CoinSetup.isCoin (c : CoinSetup) (width : Nat) : Bool :=
  decide (c.minWidth ≤ width) && decide (width ≤ c.maxWidth)

/-- The sampled level of a coin line as the router shows it, and the line itself (R142, R159). -/
def State.sampleCoin (s : State) (l : CoinLine) (b : Bool) : State :=
  match l with
  | .a => { s with router.sampledA := b, pins.coinA := b }
  | .b => { s with router.sampledB := b, pins.coinB := b }

/-- A coin line as it stands. -/
def Pins.coin (p : Pins) : CoinLine → Bool
  | .a => p.coinA
  | .b => p.coinB

/-- The ms left of a pulse's phase, one less (R166). -/
def Pulse.countDown : Pulse → Pulse
  | .on left rest => .on (left - 1) rest
  | .off left => .off (left - 1)

/-- A generator can start a pulse for a slot: pending above 0, on air, none in flight, and a pulse shape (R166). -/
def State.coinPulseDue (s : State) (i : Slot) : Bool :=
  decide (0 < s.credit.pending.get i) && decide (s.ho.onAir = some (.slot i)) &&
    decide (s.credit.pulses.get i = none) && (s.copy i).isSome

/-- A coin pulse starts: one unit is delivered (R166). -/
def Credit.startPulse (i : Slot) (d : Descriptor) (c : Credit) : Credit :=
  { c with pending := c.pending.set i (c.pending.get i - 1),
           delivered := c.delivered.set i (c.delivered.get i + 1),
           deliveredTotal := c.deliveredTotal + 1,
           pulses := c.pulses.set i (some (.on d.coinOn d.coinOff)) }

end Sys2Proof.Machine
end

