-- ==== Sys2Proof/Machine/Sync.lean ====
section
/-! DEFINITION. The measurement record of one source (chapter 4): counting, frames, judging, runs, loss and resumption,
as functions of the record alone. What the events do to the other blocks stands in Machine/SyncEvents.lean. -/

namespace Sys2Proof.Machine

/-- The events the unit signals (R79). -/
inductive SyncEvent where
  | stable | unstable | noSync
deriving DecidableEq, Repr

/-- The separation period S (R69): reported P while the run has a reference, else the last stable P, else the window low. -/
def SyncRec.separation (low : Nat) (r : SyncRec) : Nat :=
  if r.reference.isSome then r.p else if r.lastP ≠ 0 then r.lastP else low

/-- Whether a leading edge at `t` is a counted hsync leading edge: at least three quarters of S after the last (R69). -/
def SyncRec.counts (low : Nat) (t : Stamp) (r : SyncRec) : Bool :=
  match r.lastHsync with
  | none => true
  | some h => decide (3 * r.separation low ≤ ticksFrom h t * 64)

/-- Whether `t` lies after `u`. -/
def isAfter (u t : Stamp) : Bool := decide (t ≠ u) && reached u t

/-- A leading edge on the horizontal or composite input at `t` (R69): ignored in EMPTY, tracked in SILENT, counted in
LIVE into an open frame that it comes after the start of (R71), the count saturating at 1023. -/
def SyncRec.hsyncEdge (low : Nat) (t : Stamp) (r : SyncRec) : SyncRec :=
  if r.condition = .empty ∨ r.counts low t = false then r
  else
    { r with lastHsync := some t,
             lines := if r.condition = .live ∧ r.frameOpen = true ∧ isAfter r.lastVsync t = true then
               min 1023 (r.lines + 1) else r.lines }

/-- Whether a pulse that has lasted `width` mticks is a vertical pulse (R70): on source 0's vertical input at its leading
edge, elsewhere from more than a quarter of S on. -/
def SyncRec.isVertical (low : Nat) (input : SyncInput) (width : Nat) (r : SyncRec) : Bool :=
  match input with
  | .vertical => true
  | .horizontal => decide (r.separation low < width * 64)

/-- Whether a vertical pulse at `t` belongs to the vertical interval of an earlier vsync leading edge (R70): one stamped d
mticks before it with d × 2 < S, the difference taken modulo 2^32 (R65). -/
def SyncRec.merges (low : Nat) (t : Stamp) (r : SyncRec) : Bool :=
  match r.lastEdge with
  | none => false
  | some e => decide (ticksFrom e t * 2 < r.separation low)

/-- The candidate line period in 16ths: frame time × 16 over the line count, rounded half up (R71). -/
def candidate (frameTime lines : Nat) : Nat := (frameTime * 32 + lines) / (2 * lines)

/-- The run is without a reference and the flags are clear (R73 third case, R68, R76, R78). -/
def SyncRec.endRun (r : SyncRec) : SyncRec :=
  { r with reference := none, stableCount := 0, linesSeen := [], stable := false, interlaced := false }

/-- The frame in progress is closed without a candidate (R68, R78). -/
def SyncRec.closeFrame (r : SyncRec) : SyncRec := { r with frameOpen := false, lines := 0 }

/-- A valid candidate begins a run as its reference (R73, first two cases). -/
def SyncRec.startRun (c n : Nat) (r : SyncRec) : SyncRec :=
  { r with reference := some ⟨c, n⟩, stableCount := 1, p := c, l := n, linesSeen := [n], stable := false,
           interlaced := false }

/-- A frame's candidate is valid: 200 to 700 lines and C within the window in force (R72). -/
def validCandidate (lo hi c n : Nat) : Bool :=
  decide (200 ≤ n) && decide (n ≤ 700) && decide (lo ≤ c) && decide (c ≤ hi)

/-- |a - b|. -/
def absDiff (a b : Nat) : Nat := (a - b) + (b - a)

/-- A candidate agrees with the reference: within 64 16ths and within one line (R72). -/
def Reference.agrees (ref : Reference) (c n : Nat) : Bool :=
  decide (absDiff c ref.c ≤ 64) && decide (absDiff n ref.lines ≤ 1)

/-- The lines seen with one more count (R74). -/
def addSeen (n : Nat) (seen : List Nat) : List Nat := if n ∈ seen then seen else n :: seen

/-- The smallest line count seen, from `n` on (R74). -/
def leastSeen (n : Nat) (seen : List Nat) : Nat := seen.foldl min n

/-- The run continues with an agreeing candidate (R74), and becomes or stays stable from 8 on (R75). -/
def SyncRec.continueRun (c n : Nat) (r : SyncRec) : SyncRec :=
  let seen := addSeen n r.linesSeen
  let l := leastSeen n seen
  let count := min 255 (r.stableCount + 1)
  let stable := r.stable || decide (count = 8)
  { r with stableCount := count, p := c, linesSeen := seen, l := l,
           interlaced := decide (l ∈ seen) && decide (l + 1 ∈ seen), stable := stable,
           lastP := if stable then c else r.lastP, lastL := if stable then l else r.lastL }

/-- How a frame was judged: it started or emptied a run, or agreed with it. -/
inductive Judged where
  | newRun | agreed
deriving DecidableEq, Repr

/-- The frame just ended is judged against the window in force (R72 to R75). -/
def SyncRec.judge (lo hi : Nat) (r : SyncRec) : SyncRec × Judged :=
  let n := r.frameLines
  let c := candidate r.frameTime.toNat n
  if validCandidate lo hi c n then
    match r.reference with
    | none => (r.startRun c n, .newRun)
    | some ref => if ref.agrees c n then (r.continueRun c n, .agreed) else (r.startRun c n, .newRun)
  else (r.endRun, .newRun)

/-- The event of a change of the stable flag over a frame's end (R73, R75). -/
def stabilityEvent (before after : Bool) : Option SyncEvent :=
  if before = after then none else if after then some .stable else some .unstable

/-- How many counted hsync leading edges taken so far come after `t`: a vsync leading edge is known a quarter of a line
late at most (R70) and counted edges stand three quarters apart (R69), so that it is the last one or none
(assumption 38). -/
def SyncRec.linesAfter (t : Stamp) (r : SyncRec) : Nat :=
  match r.lastHsync with
  | some h => if isAfter t h then 1 else 0
  | none => 0

/-- Steps 1 to 4 of R71: the open frame ends at `t` and a new one opens. A counted edge with a stamp after `t` belongs to
the new frame, and one with stamp `t` to the frame that ends. -/
def SyncRec.endFrame (t : Stamp) (r : SyncRec) : SyncRec :=
  { r with frameTime := t - r.lastVsync, frameLines := r.lines - r.linesAfter t, lines := r.linesAfter t, lastVsync := t }

/-- A frame opens at `t` with nothing judged (R71, R77). -/
def SyncRec.openFrame (t : Stamp) (r : SyncRec) : SyncRec :=
  { r with frameOpen := true, lines := r.linesAfter t, lastVsync := t }

/-- Whether a SILENT record resumes at a vsync leading edge at `t`: a counted hsync edge lies within 96,000 mticks
before it (R77). -/
def SyncRec.resumes (t : Stamp) (r : SyncRec) : Bool :=
  match r.lastHsync with
  | none => false
  | some h => decide (ticksFrom h t ≤ Config.hsyncLoss)

/-- What a vertical pulse did to a record. -/
structure VsyncOutcome where
  record : SyncRec
  /-- The frame's STABLE or UNSTABLE, if any (R79). -/
  event : Option SyncEvent
  /-- The frame agreed with its run (R80's second occasion). -/
  agreed : Bool
  /-- The vsync leading edge of a LIVE record is announced to the raster generator (R79). -/
  announced : Bool
deriving DecidableEq, Repr

/-- A vertical pulse with stamp `t` at a record with window lo to hi (R70, R71, R77). -/
def SyncRec.vsyncEdge (lo hi : Nat) (t : Stamp) (r : SyncRec) : VsyncOutcome :=
  match r.condition with
  | .empty => ⟨r, none, false, false⟩
  | .silent =>
    if r.merges lo t then ⟨r, none, false, false⟩
    else if r.resumes t then ⟨{ r.openFrame t with condition := .live, lastEdge := some t }, none, false, true⟩
    else ⟨{ r with lastEdge := some t }, none, false, false⟩
  | .live =>
    if r.merges lo t then ⟨r, none, false, false⟩
    else if r.frameOpen then
      let j := (r.endFrame t).judge lo hi
      ⟨{ j.1 with lastEdge := some t }, stabilityEvent r.stable j.1.stable, decide (j.2 = .agreed), true⟩
    else ⟨{ r.openFrame t with lastEdge := some t }, none, false, true⟩

/-- A loss of sync (R76): SILENT, the run ended, the frame closed; timing, stamps and last values kept. -/
def SyncRec.loseSync (r : SyncRec) : SyncRec :=
  { r.endRun with condition := .silent, frameOpen := false, lines := 0 }

/-- A new run asked for at the end of settling (R78): only a LIVE record has one to end. -/
def SyncRec.newRun (r : SyncRec) : SyncRec :=
  if r.condition = .live then r.endRun.closeFrame else r

/-- The polarity of one input changes (R68), its confirmation count returning to 0. -/
def SyncRec.flip (input : SyncInput) (r : SyncRec) : SyncRec :=
  match input with
  | .horizontal => { r with horizontalPositive := !r.horizontalPositive, horizontalConfirm := 0 }
  | .vertical => { r with verticalPositive := !r.verticalPositive, verticalConfirm := 0 }

/-- Whether an ms interval confirms a change of an input's polarity (R68): the level that is not its pulse level had the
shorter time, of 24000 mticks of which it stood high for `high`. -/
def confirmsChange (positive : Bool) (high : Nat) : Bool :=
  if positive then decide (Config.mticksPerMs - high < high) else decide (high < Config.mticksPerMs - high)

/-- A change of polarity (R68): the run of a LIVE record ends and its frame is closed. -/
def SyncRec.changePolarity (input : SyncInput) (r : SyncRec) : SyncRec :=
  if r.condition = .empty then r
  else if r.condition = .live then (r.flip input).endRun.closeFrame
  else r.flip input

/-- An agreeing frame after which the page is marked: P moved 16 or more from the shown P, or L differs (R80). -/
def SyncRec.movedFromShown (r : SyncRec) : Bool :=
  decide (16 ≤ absDiff r.p r.shownP) || decide (r.l ≠ r.shownL)

/-- The mtick instant at which a vertical pulse with stamp `t` is recognised (R70): at once on source 0's vertical
input, else when it has lasted w mticks with w × 64 > S. -/
def SyncRec.recognisedAt (low : Nat) (input : SyncInput) (t : Stamp) (r : SyncRec) : Stamp :=
  match input with
  | .vertical => t
  | .horizontal => t + BitVec.ofNat 32 (r.separation low / 64 + 1)

/-- A source's record replaced. -/
def State.setRecord (s : State) (src : Source) (r : SyncRec) : State :=
  { s with sync.records := s.sync.records.set src r }

/-- The low end of a source's window; 0 for an EMPTY record, which has none. -/
def State.windowLow (s : State) (src : Source) : Nat := ((s.window? src).getD (0, 0)).1

/-- The high end of a source's window. -/
def State.windowHigh (s : State) (src : Source) : Nat := ((s.window? src).getD (0, 0)).2

/-- A slot's record goes to EMPTY as its descriptor copy becomes absent; its page is marked (R66, R80). -/
def State.emptyRecord (s : State) (i : Slot) : State :=
  (s.setRecord (.slot i) (SyncRec.blank .empty)).markSource (.slot i)

/-- A slot's record leaves EMPTY at a new descriptor copy; its page is marked (R66, R80). -/
def State.wakeRecord (s : State) (i : Slot) : State :=
  (s.setRecord (.slot i) (SyncRec.blank .silent)).markSource (.slot i)

/-- The new run asked for at a settle timer's expiry; clearing the stable flag marks the page (R78, R80). -/
def State.requestNewRun (s : State) (i : Slot) : State :=
  let r := s.record (.slot i)
  let t := s.setRecord (.slot i) r.newRun
  if r.stable ∧ r.newRun.stable = false then t.markSource (.slot i) else t

end Sys2Proof.Machine
end

