-- ==== Sys2Proof/Machine/Raster.lean ====
section
/-! DEFINITION. The raster generator (chapter 5): holding lines, the starts of HOLD, the steps at a holding frame end, the
cut. What the hand-over controller makes of them stands in Machine/HandOver.lean. -/

namespace Sys2Proof.Machine

/-- A line period limited to the monitor window in force (R87). -/
def Raster.limit (r : Raster) (p : Nat) : Nat := if p < r.pMin then r.pMin else if r.pMax < p then r.pMax else p

/-- The timing from which HOLD starts: the pass timing, its P limited to the window (R87). In PASS there is one; where
there is none the holding timing stands. -/
def Raster.startTiming (r : Raster) : Timing :=
  match r.pass with
  | some t => ⟨r.limit t.p, t.l⟩
  | none => ⟨r.p, r.l⟩

/-- HOLD starts at `t` (R88, R89): accumulator 0, line index 1, no selection, no release order, pass timing absent. -/
def Raster.startHold (t : Stamp) (r : Raster) : Raster :=
  { r with mode := .hold, crosspoint := none, p := r.startTiming.p, l := r.startTiming.l, acc := 0, lineIndex := 1,
           lineBegun := false, lineStart := t, lineLength := 0, pass := none, releaseOrder := none }

/-- An immediate start of HOLD at the instant of the order; in HOLD the holding raster runs on (R89). -/
def Raster.immediateHold (t : Stamp) (r : Raster) : Raster :=
  match r.mode with
  | .pass => r.startHold t
  | .hold => { r with releaseOrder := none }

/-- A holding line begins at `t` with index `k` (R84). -/
def Raster.beginLine (k : Nat) (t : Stamp) (r : Raster) : Raster :=
  { r with lineIndex := k, lineBegun := true, lineStart := t, lineLength := (r.p + r.acc) / 16,
           acc := (r.p + r.acc) % 16 }

/-- The instant at which the current holding line ends. -/
def Raster.lineEnd (r : Raster) : Stamp := r.lineStart + BitVec.ofNat 32 r.lineLength

/-- Whether a holding line can begin: the frame's first line has not begun, or a line before the last has ended. -/
def Raster.lineDue (r : Raster) : Bool :=
  decide (r.mode = .hold) && (!r.lineBegun || decide (r.lineIndex < r.l))

/-- The next holding line begins (R84): the frame's first, or the one after the current line. -/
def Raster.nextLine (r : Raster) : Raster :=
  if r.lineBegun then r.beginLine (r.lineIndex + 1) r.lineEnd else r.beginLine r.lineIndex r.lineStart

/-- The lines of the frame not yet begun. -/
def Raster.linesLeft (r : Raster) : Nat := if r.lineBegun then r.l - r.lineIndex else r.l + 1 - r.lineIndex

/-- The 16ths of the lines not yet begun, with the accumulator's remainder (R84). -/
def Raster.sixteenthsLeft (r : Raster) : Nat := r.linesLeft * r.p + r.acc

/-- The instant at which the frame's L-th line ends, the lines not yet begun each lasting as R84 states. -/
def Raster.frameEndAt (r : Raster) : Stamp :=
  (if r.lineBegun then r.lineEnd else r.lineStart) + BitVec.ofNat 32 (r.sixteenthsLeft / 16)

/-- The frame has ended and the next begins at that instant with line index 1 (R86 step 3): the accumulator as the
last line left it. -/
def Raster.wrapFrame (r : Raster) : Raster :=
  { r with acc := r.sixteenthsLeft % 16, lineIndex := 1, lineBegun := false, lineStart := r.frameEndAt, lineLength := 0 }

/-- Pending glide values take force (R86 step 1). -/
def Raster.takeGlide (r : Raster) : Raster :=
  match r.pendingGlide with
  | some g => { r with glide := g, pendingGlide := none }
  | none => r

/-- One step of a number toward another by at most `k` (R92's clamp). -/
def stepToward (x target k : Nat) : Nat := (x + clampInt ((target : Int) - x) (-(k : Int)) k).toNat

/-- What a holding frame end found (R86 step 5). -/
inductive Finding where
  | nothing
  | glideComplete
  | armed (rough : Bool)
  | outOfWindow
  | notStable
deriving DecidableEq, Repr

/-- The glide step toward a timing (R92). -/
def Raster.glideTo (t : Timing) (r : Raster) : Raster :=
  { r with p := stepToward r.p t.p r.glide.g, l := stepToward r.l t.l r.glide.v }

/-- Whether the holding timing stands at a timing. -/
def Raster.standsAt (t : Timing) (r : Raster) : Bool := decide (r.p = t.p) && decide (r.l = t.l)

/-- The lag e in lines of the frame start at `tg` behind the target's (R93); negative when it leads. -/
def alignmentError (tg : Stamp) (r : SyncRec) : Int :=
  let d := ticksFrom r.lastVsync tg % r.frameTime.toNat
  let raw := (d * 32 + r.lastP) / (2 * r.lastP)
  if r.lastL < raw * 2 then (raw : Int) - r.lastL else raw

/-- The align count as raised at this alignment step; it starts anew at a new target (R94). -/
def Raster.raisedAlign (target : Source) (r : Raster) : Nat :=
  if r.alignTarget = some target then r.alignCount + 1 else 1

/-- The next P of an alignment step or an armed frame (R93, R96). -/
def Raster.alignP (rec : SyncRec) (r : Raster) : Nat := stepToward r.p rec.lastP r.glide.g

/-- The alignment step (R94) at the frame end `tg` toward a target with record `rec`. -/
def Raster.alignStep (target : Source) (rec : SyncRec) (tg : Stamp) (r : Raster) : Raster × Finding :=
  let e := alignmentError tg rec
  let n := r.raisedAlign target
  let base := { r with p := r.alignP rec, alignTarget := some target }
  if e.natAbs ≤ 1 then
    ({ base with l := rec.lastL, alignCount := 0, cutArm := some ⟨target, false, tg⟩ }, .armed false)
  else if r.glide.limit ≤ n then
    ({ base with l := rec.lastL, alignCount := 0, cutArm := some ⟨target, true, tg⟩ }, .armed true)
  else
    ({ base with l := ((rec.lastL : Int) - clampInt e (-(r.glide.a : Int)) r.glide.a).toNat, alignCount := n }, .nothing)

/-- An armed frame (R96): P steps, L is the target's, nothing is judged. -/
def Raster.armedFrame (rec : SyncRec) (arm : CutArm) (r : Raster) : Raster × Finding :=
  ({ r with p := r.alignP rec, l := rec.lastL, alignCount := 0 }, .armed arm.rough)

/-- Whether a target makes no step (R95): its last stable P outside the window, or its record not stable. -/
def Raster.unusable (rec : SyncRec) (r : Raster) : Option Finding :=
  if rec.lastP < r.pMin ∨ r.pMax < rec.lastP then some .outOfWindow
  else if rec.stable then none else some .notStable

/-- The glide step of the GLIDE phase toward a target (R92). -/
def Raster.glideStep (rec : SyncRec) (r : Raster) : Raster × Finding :=
  let t : Timing := ⟨rec.lastP, rec.lastL⟩
  (r.glideTo t, if (r.glideTo t).standsAt t then .glideComplete else .nothing)

/-- The step of a frame end toward a target in GLIDE or ALIGN (R91 to R96). -/
def Raster.targetStep (phase : Phase) (target : Source) (rec : SyncRec) (tg : Stamp) (r : Raster) : Raster × Finding :=
  match r.unusable rec with
  | some f => (r, f)
  | none =>
    if phase = .glide then r.glideStep rec
    else
      match r.cutArm with
      | some arm => r.armedFrame rec arm
      | none => r.alignStep target rec tg

/-- The step chosen by the phase and target at a frame end (R91). The align count is 0 at every frame end outside
ALIGN, one in GLIDE with an unusable target among them, where R95 leaves the count of an unusable target as it is
(assumption 35). -/
def Raster.step (phase : Phase) (target : Option (Source × SyncRec)) (tg : Stamp) (r : Raster) : Raster × Finding :=
  match phase, target with
  | .quiet, _ => ({ r with alignCount := 0 }.glideTo ⟨r.pRest, r.lRest⟩, .nothing)
  | .glide, some (t, rec) => { r with alignCount := 0 }.targetStep .glide t rec tg
  | .align, some (t, rec) => r.targetStep .align t rec tg
  | .align, none => (r, .nothing)
  | _, _ => ({ r with alignCount := 0 }, .nothing)

/-- The pass timing set from a record (R87). -/
def Raster.setPass (rec : SyncRec) (r : Raster) : Raster := { r with pass := some ⟨rec.lastP, rec.lastL⟩ }

/-- An announcement of a vsync leading edge of a stable on-air source sets the pass timing again (R87). -/
def Raster.notePass (src : Source) (rec : SyncRec) (r : Raster) : Raster :=
  if r.mode = .pass ∧ r.crosspoint = some src ∧ rec.stable = true then r.setPass rec else r

/-- Whether an edge with stamp `t` arrived after the arming at `u` (R96); the same instant is left open (assumption 6). -/
def arrivedAfter (u t : Stamp) : Bool := if t = u then Config.edgeAtArmingIsAfter t else reached u t

/-- Whether an announcement of an edge of `src` with stamp `t` makes the cut (R96). -/
def Raster.cutsAt (src : Source) (rec : SyncRec) (t : Stamp) (r : Raster) : Option CutArm :=
  match r.mode, r.cutArm with
  | .hold, some arm => if arm.target = src ∧ rec.stable = true ∧ arrivedAfter arm.armedAt t = true then some arm else none
  | _, _ => none

/-- The cut (R96): the line in progress ends, the pass timing is the target's, PASS, the target selected, accumulator 0,
the arm absent. The holding P and L keep their values. No rule gives the line index in PASS, where no holding line runs: the
model sets it to 1 (assumption 34). -/
def Raster.cut (target : Source) (rec : SyncRec) (r : Raster) : Raster :=
  { r.setPass rec with mode := .pass, crosspoint := some target, acc := 0, lineIndex := 1, lineBegun := false,
                       lineLength := 0, cutArm := none }

/-- Whether the line period of a timing lies within the monitor window in force. -/
def Raster.inWindow (r : Raster) (p : Nat) : Bool := decide (r.pMin ≤ p) && decide (p ≤ r.pMax)

end Sys2Proof.Machine
end

