-- ==== Sys2Proof/Machine/Router.lean ====
section
/-! DEFINITION. The control router (chapter 8): entry states, pin drive, the driven slot, the chord freeze. -/

namespace Sys2Proof.Machine

/-- The bit of an input in a 32-bit input field (R19). -/
def inputBit (n : Nat) : BitVec 32 := 1#32 <<< n

/-- Whether an input is debounced active. -/
def Router.active (r : Router) (n : Nat) : Bool := r.inputs.getLsbD n

/-- Index of a debounced line's bounce count. -/
def lineIndex : Line → Fin 34
  | .input i => ⟨i.val, by omega⟩
  | .service => ⟨32, by omega⟩
  | .operatorKey => ⟨33, by omega⟩

/-- The debounced state of a line (R142). -/
def Router.lineActive (r : Router) : Line → Bool
  | .input i => r.active i.val
  | .service => r.service
  | .operatorKey => r.operatorKey

/-- A line as it stands, before settling. -/
def Pins.line (p : Pins) : Line → Bool
  | .input i => p.inputs.getLsbD i.val
  | .service => p.service
  | .operatorKey => p.operatorKey

/-- Bit n of a field set or cleared. -/
def setInput (f : BitVec 32) (n : Nat) (b : Bool) : BitVec 32 := if b then f ||| inputBit n else f &&& ~~~ inputBit n

/-- A line's debounced state takes the sampled level and its bounce count becomes 0 (R142). -/
def Router.acceptLine (l : Line) (b : Bool) (r : Router) : Router :=
  let t := { r with bounce := r.bounce.set (lineIndex l).val 0 (lineIndex l).isLt }
  match l with
  | .input i => { t with inputs := setInput r.inputs i.val b }
  | .service => { t with service := b }
  | .operatorKey => { t with operatorKey := b }

/-- The line itself stands at a level. -/
def Pins.setLine (l : Line) (b : Bool) (p : Pins) : Pins :=
  match l with
  | .input i => { p with inputs := setInput p.inputs i.val b }
  | .service => { p with service := b }
  | .operatorKey => { p with operatorKey := b }

/-! ### Entries (R151 to R154) -/

/-- The inputs an entry covers, in order. -/
def MapEntry.inputs (e : MapEntry) : List Nat := (List.range (e.last + 1 - e.first)).map (· + e.first)

/-- A PULSE or AUTOFIRE entry: the modes that hold state (R154). -/
def EntryMode.holdsState : EntryMode → Bool
  | .pulse _ | .autofire _ _ => true
  | .direct | .invert => false

/-- The reset state of an entry for one input: idle, with the release-wait mark where the input is held (R154). -/
def MapEntry.resetState (inputs : BitVec 32) (e : MapEntry) (n : Nat) : InputState :=
  { phase := .idle, wait := e.mode.holdsState && inputs.getLsbD n }

/-- The reset states of a map's entries (R154). -/
def resetEntries (inputs : BitVec 32) (es : List MapEntry) : List (List InputState) :=
  es.map fun e => e.inputs.map (e.resetState inputs)

/-- The states of one entry's inputs changed, the first standing for input `n`. -/
def mapInputs (f : Nat → InputState → InputState) : Nat → List InputState → List InputState
  | _, [] => []
  | n, x :: xs => f n x :: mapInputs f (n + 1) xs

/-- The states of all entries changed: `f k e n x` for entry k, its map entry, input n and the state held. -/
def mapEntries (f : Nat → MapEntry → Nat → InputState → InputState) :
    Nat → List MapEntry → List (List InputState) → List (List InputState)
  | k, e :: es, xs :: rest => mapInputs (f k e) e.first xs :: mapEntries f (k + 1) es rest
  | _, _, _ => []

/-- An activation of input `n` at an entry's state for input `m` (R152, R153): only an idle phase without the
release-wait mark starts. -/
def MapEntry.activate (n : Nat) (e : MapEntry) (m : Nat) (x : InputState) : InputState :=
  if m = n ∧ x.phase = .idle ∧ x.wait = false then
    match e.mode with
    | .pulse d => { x with phase := .pulsing d }
    | .autofire on _ => { x with phase := .on on }
    | .direct | .invert => x
  else x

/-- The phase after a release: an autofire phase becomes idle, a pulse runs on (R152, R153). -/
def EntryPhase.released : EntryPhase → EntryPhase
  | .on _ | .off _ => .idle
  | .pulsing left => .pulsing left
  | .idle => .idle

/-- A release of input `n` (R152 to R154): autofire goes idle, the release-wait mark is cleared. -/
def MapEntry.release (n : Nat) (_ : MapEntry) (m : Nat) (x : InputState) : InputState :=
  if m = n then { phase := x.phase.released, wait := false } else x

/-- Whether an entry is active for an input (R151 to R153). -/
def MapEntry.activeFor (inputs : BitVec 32) (e : MapEntry) (n : Nat) (x : InputState) : Bool :=
  match e.mode with
  | .direct => inputs.getLsbD n
  | .invert => !inputs.getLsbD n
  | .pulse _ => match x.phase with
    | .pulsing _ => true
    | .idle | .on _ | .off _ => false
  | .autofire _ _ => match x.phase with
    | .on _ => true
    | .idle | .pulsing _ | .off _ => false

/-- The pins one entry makes active, from input `n` on: input n drives pin base + (n - first) (section 8.2). -/
def entryPins (inputs : BitVec 32) (e : MapEntry) : Nat → List InputState → BitVec 48
  | _, [] => 0
  | n, x :: xs =>
    (if e.activeFor inputs n x then 1#48 <<< (e.pin + (n - e.first)) else 0) ||| entryPins inputs e (n + 1) xs

/-- The pins a map makes active: those with at least one active entry (R150). -/
def mapPins (inputs : BitVec 32) : List MapEntry → List (List InputState) → BitVec 48
  | e :: es, xs :: rest => entryPins inputs e e.first xs ||| mapPins inputs es rest
  | _, _ => 0

/-- The entries of the driven slot's map. -/
def Router.drivenMap (r : Router) : List MapEntry :=
  match r.driven with
  | some i => (r.maps.get i).entries
  | none => []

/-- The entry states changed by `f`. -/
def Router.updateEntries (f : Nat → MapEntry → Nat → InputState → InputState) (r : Router) : Router :=
  { r with entries := mapEntries f 0 r.drivenMap r.entries }

/-- The entry states of the driven slot reset (R154). -/
def Router.resetStates (r : Router) : Router := { r with entries := resetEntries r.inputs r.drivenMap }

/-- The pins go idle at once. -/
def Router.idlePins (r : Router) : Router := { r with activePins := 0 }

/-- The pins of the driven slot computed at a scan; idle during a chord freeze or a restart hold (R150). -/
def Router.drive (r : Router) : Router :=
  if r.chordFreeze || r.restartHold then r.idlePins
  else { r with activePins := mapPins r.inputs r.drivenMap r.entries }

/-- The driven slot becomes a slot: its entry states are reset and its pins stay idle until a scan (R149). -/
def Router.driveSlot (i : Slot) (r : Router) : Router := { r with driven := some i }.resetStates.idlePins

/-- The driven slot becomes none: pins idle, entry states reset, a chord freeze ends (R149, R157). -/
def Router.driveNone (r : Router) : Router := { r with driven := none, chordFreeze := false }.resetStates.idlePins

/-- The driven slot follows the source that has the cabinet: a slot, or none for source 0 (R149). -/
def Router.driveSource (src : Source) (r : Router) : Router :=
  match src with
  | .slot i => r.driveSlot i
  | .menu => r.driveNone

/-- Every input of the chord mask is debounced active. -/
def Router.chordHeld (r : Router) : Bool := decide (r.inputs &&& r.chordMask = r.chordMask)

/-- Every input of the chord mask is debounced inactive. -/
def Router.chordClear (r : Router) : Bool := decide (r.inputs &&& r.chordMask = 0)

/-- A chord freeze starts: pins idle at once, entry states reset (R157). -/
def Router.freeze (r : Router) : Router := { r with chordFreeze := true }.resetStates.idlePins

/-- A chord freeze ends: the entry states are reset (R157). -/
def Router.thaw (r : Router) : Router := { r with chordFreeze := false }.resetStates

/-- What a scan does to the chord's latch, freeze and timer when mask inputs are inactive (R156, R157): with every one
inactive the latch is cleared and a freeze ends; with any inactive the timer becomes 0. -/
def Router.chordReleases (r : Router) : Router :=
  let t := if r.chordClear then { (if r.chordFreeze then r.thaw else r) with chordLatch := false } else r
  if r.chordHeld then t else { t with chordTimer := 0 }

/-- A slot's map replaced; the entry states are reset when it is the driven slot's (R147, R154). -/
def Router.installMap (i : Slot) (m : ControlMap) (r : Router) : Router :=
  let t := { r with maps := r.maps.set i m }
  if r.driven = some i then t.resetStates else t

/-- The map after a new descriptor copy: emptied when an entry reaches a pin at or above the new pin count (R144). -/
def ControlMap.fitted (pins : Nat) (m : ControlMap) : ControlMap :=
  if m.entries.all fun e => decide (e.pin + (e.last - e.first) < pins) then m else ControlMap.blank

/-- Whether chord detection runs at a scan: a slot on air, QUIET, no restart hold, the latch clear (R156). -/
def State.chordRuns (s : State) : Bool :=
  (match s.ho.onAir with
    | some (.slot _) => true
    | some .menu => false
    | none => false) && decide (s.ho.phase = .quiet) && !s.router.restartHold && !s.router.chordLatch

end Sys2Proof.Machine
end

