-- ==== Sys2Proof/Machine/Bus.lean ====
section
/-! DEFINITION. The adapter bus's queue and its descriptor copies (chapter 3). What the ends of transactions do stands in
Machine/BusEvents.lean. -/

namespace Sys2Proof.Machine

/-- A request joins the queue at the tail; the depth shown changes (R51). -/
def State.enqueue (s : State) (q : BusRequest) : State :=
  { s.markCabinet with bus.queue := s.bus.queue ++ [q] }

/-- The head request leaves the queue as its transaction ends, and the bus is idle (R51). -/
def State.dequeue (s : State) : State :=
  { s.markCabinet with bus.queue := s.bus.queue.tail, bus.phase := .idle, bus.stopping := false }

/-- An AUTOLOAD or RELOAD request (section 3.3). -/
def BusRequest.isLoad (q : BusRequest) : Bool :=
  match q.kind with
  | .autoload | .reload => true
  | .read | .write => false

/-- An AUTOLOAD or RELOAD request for a slot with its attached cells: 32 bytes from byte 0. -/
def loadRequest (kind : BusKind) (i : Slot) (cells : List CellNo) : BusRequest :=
  { kind := kind, slot := i, addr := 0, len := 32, data := [], cells := cells }

/-- A slot's descriptor copy replaced or cleared. -/
def State.setCopy (s : State) (i : Slot) (d : Option Descriptor) : State :=
  { s with bus.copies := s.bus.copies.set i d }

/-- A slot's undescribed reason. -/
def State.setUndescribed (s : State) (i : Slot) (u : Undescribed) : State :=
  { s with bus.undescribed := s.bus.undescribed.set i u }

/-- A slot's stale flag. -/
def State.setStale (s : State) (i : Slot) (b : Bool) : State := { s with bus.stale := s.bus.stale.set i b }

/-- A RELOAD job's cell appended to the slot's standing AUTOLOAD or RELOAD request (R52). -/
def attachCell (i : Slot) (c : CellNo) (q : BusRequest) : BusRequest :=
  if q.isLoad ∧ q.slot = i then { q with cells := q.cells ++ [c] } else q

/-- Every cell of a list completed alike. -/
def State.completeAll (s : State) (cells : List CellNo) (r : Result) (detail : Nat) (data : List Nat) : State :=
  cells.foldl (fun t c => t.complete c r detail data) s

/-- The request being served, while a transaction is in flight. -/
def State.serving (s : State) : Option BusRequest :=
  match s.bus.phase with
  | .idle => none
  | .reading | .writing | .polling _ _ => s.bus.queue.head?

/-- A write into descriptor bytes: its byte address is below 32 (R58). -/
def BusRequest.touchesDescriptor (q : BusRequest) : Bool := decide (q.addr < 32)

end Sys2Proof.Machine
end

