-- ==== Sys2Proof/Machine/Slots.lean ====
section
/-! DEFINITION. The slot manager (chapter 2) and its liveness watch (chapter 7): power-up requests and checks, eviction,
cooling, loading, LOST and the restart decision, as operations. The events and jobs that use them come later. -/

namespace Sys2Proof.Machine

/-- A slot's record replaced. -/
def State.setSlot (s : State) (i : Slot) (r : SlotRec) : State := { s with slots := s.slots.set i r }

/-- A slot's record changed. -/
def State.modSlot (s : State) (i : Slot) (f : SlotRec → SlotRec) : State := s.setSlot i (f (s.slot i))

/-- All four timers of a slot stopped. -/
def SlotRec.stopTimers (r : SlotRec) : SlotRec := { r with settle := none, start := none, grace := none, cool := none }

/-- A figure of a slot's descriptor copy; 0 without one. -/
def State.figure (s : State) (i : Slot) (f : Descriptor → Nat) : Nat :=
  match s.copy i with
  | some d => f d
  | none => 0

/-! ### Powering and cooling -/

/-- A slot goes to COOLING (R34): timers stopped, the cool timer started, out of the warm list, no pending power-up. -/
def State.toCooling (s : State) (i : Slot) : State :=
  { s.modSlot i fun r =>
      { r.stopTimers with state := .cooling, cool := some (s.figure i Descriptor.cool * 100), powerUp := none } with
    warm := s.warm.erase i }

/-- A slot is powered (R30): SETTLING with the settle timer started, at the head of the warm list. -/
def State.applyPower (s : State) (i : Slot) : State :=
  { s.modSlot i fun r =>
      { r.stopTimers with state := .settling, settle := some (s.figure i Descriptor.settle * 10), overCount := 0 } with
    warm := i :: s.warm.erase i }

/-- The slots evicted, one after the other (R29). -/
def State.evictAll (s : State) (vs : List Slot) : State := vs.foldl State.toCooling s

/-! ### Involvement and eviction candidates -/

/-- A hand-over is in flight from the instant the phase leaves QUIET until it returns there (section 6.1). -/
def Phase.inFlight : Phase → Bool
  | .quiet => false
  | .prepare | .fadeOut | .release | .waitTarget | .glide | .align | .fadeIn => true

/-- Before release (section 6.1). -/
def Phase.beforeRelease : Phase → Bool
  | .prepare | .fadeOut | .release => true
  | .quiet | .waitTarget | .glide | .align | .fadeIn => false

/-- Between release and cut (section 6.1). -/
def Phase.beforeCut : Phase → Bool
  | .waitTarget | .glide | .align => true
  | .quiet | .prepare | .fadeOut | .release | .fadeIn => false

/-- A slot is involved: on air, the outgoing not yet released, or the target of a hand-over in flight (R40). -/
def State.involved (s : State) (i : Slot) : Bool :=
  decide (s.ho.onAir = some (.slot i)) ||
    (s.ho.phase.beforeRelease && decide (s.ho.outgoing = some (.slot i))) ||
    (s.ho.phase.inFlight && decide (s.ho.target = some (.slot i)))

/-- An eviction candidate (R28): RUNNING, not pinned, not on air, neither outgoing nor target of a hand-over in flight. -/
def State.candidate (s : State) (i : Slot) : Bool :=
  decide ((s.slot i).state = .running) && !(s.slot i).pinned && decide (s.ho.onAir ≠ some (.slot i)) &&
    !(s.ho.phase.inFlight &&
      (decide (s.ho.outgoing = some (.slot i)) || decide (s.ho.target = some (.slot i))))

/-- Candidates collected from a list of slots until the draw `d` less theirs, plus class `c`, fits the budget (R28). -/
def State.gather (s : State) (c : Nat) : List Slot → Nat → List Slot → Option (List Slot)
  | [], _, _ => none
  | v :: rest, d, chosen =>
    if s.candidate v then
      if (d - s.drawClass v) + c ≤ s.budget then some (chosen ++ [v])
      else State.gather s c rest (d - s.drawClass v) (chosen ++ [v])
    else State.gather s c rest d chosen

/-- The power-up check of a slot (R28): the slots to evict when it passes, none when it fails. -/
def State.check (s : State) (i : Slot) (evict : Bool) : Option (List Slot) :=
  if s.draw + s.drawClass i ≤ s.budget then some []
  else if evict then s.gather (s.drawClass i) s.warm.reverse s.draw [] else none

/-! ### Power-up requests (R27, R29, R32) -/

/-- A requester of a power-up with its eviction flag: a POWER job's cell, or the hand-over controller (R27). -/
inductive Requester where
  | job (c : CellNo) (evict : Bool)
  | handOver (evict : Bool)
deriving DecidableEq, Repr

/-- A power-up with no requester yet. -/
def PowerUp.blank : PowerUp := { job := none, handOver := none, auto := false, evicted := 0 }

/-- A requester joins a power-up (R27). -/
def PowerUp.join (q : Requester) (p : PowerUp) : PowerUp :=
  match q with
  | .job c e => { p with job := some (c, e) }
  | .handOver e => { p with handOver := some e }

/-- The eviction flag: set when any job-backed requester asked for eviction (R27). A hand-over's SWITCH that joins beside an
automatic restart counts, as R27 and R104 state; R133 names POWER jobs alone (assumption 44). -/
def PowerUp.evict (p : PowerUp) : Bool :=
  (match p.job with
    | some (_, e) => e
    | none => false) || p.handOver.getD false

/-- The power-up, or none when no requester is left (R32). -/
def PowerUp.pruned (p : PowerUp) : Option PowerUp :=
  if p.job = none ∧ p.handOver = none ∧ p.auto = false then none else some p

/-- A requester joins the slot's pending power-up or power-up under way, which is made when there is none. -/
def SlotRec.join (q : Requester) (r : SlotRec) : SlotRec :=
  { r with powerUp := some ((r.powerUp.getD PowerUp.blank).join q) }

/-- Restarts left reloaded from the descriptor copy at an accepted request (R27, R134). -/
def State.reloadRestarts (s : State) (i : Slot) : State :=
  match s.copy i with
  | some d => s.modSlot i fun r => { r with restarts := d.allowance }
  | none => s

/-- A passing check takes effect (R29, R30): the chosen slots are evicted, the slot is powered, and its power-up keeps
the mask for its requesters. -/
def State.powerSlot (s : State) (i : Slot) (vs : List Slot) : State :=
  ((s.evictAll vs).applyPower i).modSlot i fun r =>
    { r with powerUp := r.powerUp.map fun p => { p with evicted := maskOf vs } }

/-- The answer to a power-up request: already powered, a refusal, or granted, to be answered later, with the mask of the
slots evicted for the power-up so far. -/
inductive Answer where
  | already
  | noBoard
  | undescribed
  | fault
  | noBudget (draw : Nat)
  | granted (mask : Word)
deriving DecidableEq, Repr

/-- The mask of a slot's power-up. -/
def SlotRec.mask (r : SlotRec) : Word :=
  match r.powerUp with
  | some p => p.evicted
  | none => 0

/-- A power-up request treated by the slot's state (R27). A request answered NO_BUDGET at once leaves restarts left as it
stands: R27, R42 and R134 do not say whether it counts as accepted, and the model takes it that it does not
(assumption 33). -/
def State.request (s : State) (i : Slot) (q : Requester) : Answer × State :=
  match (s.slot i).state with
  | .off =>
    match s.check i (PowerUp.blank.join q).evict with
    | none => (.noBudget s.draw, s)
    | some vs => (.granted (maskOf vs), ((s.modSlot i (SlotRec.join q)).reloadRestarts i).powerSlot i vs)
  | .cooling => (.granted 0, (s.modSlot i (SlotRec.join q)).reloadRestarts i)
  | .loading => if (s.slot i).powerUp.isSome then (.granted 0, s.modSlot i (SlotRec.join q)) else (.noBoard, s)
  | .settling | .starting => (.granted (s.slot i).mask, (s.modSlot i (SlotRec.join q)).reloadRestarts i)
  | .running | .onAir | .lost => (.already, s.reloadRestarts i)
  | .empty => (.noBoard, s)
  | .undescribed => (.undescribed, s)
  | .fault => (.fault, s)

/-- A pending power-up stands only before its check: in COOLING, or in LOADING when kept (R32). -/
def SlotState.beforeCheck : SlotState → Bool
  | .cooling | .loading => true
  | .empty | .undescribed | .off | .settling | .starting | .running | .onAir | .lost | .fault => false

/-- The hand-over controller withdraws from a slot's pending power-up; after the check this changes nothing (R32). -/
def State.withdrawHandOver (s : State) (i : Slot) : State :=
  if (s.slot i).state.beforeCheck then
    s.modSlot i fun r => { r with powerUp := r.powerUp.bind fun p => { p with handOver := none }.pruned }
  else s

/-- A POWER job leaves a slot's power-up, superseded or dropped (R32, R44, R46): a pending one that is left without a
requester is cancelled. -/
def State.withdrawJob (s : State) (i : Slot) : State :=
  s.modSlot i fun r =>
    { r with powerUp := r.powerUp.bind fun p =>
        if r.state.beforeCheck then { p with job := none }.pruned else some { p with job := none } }

/-- The cell of the POWER job in flight for a slot (R42, R44). -/
def SlotRec.jobCell (r : SlotRec) : Option CellNo := r.powerUp.bind fun p => p.job.map Prod.fst

/-- Words 18 to 20 of a POWER result (R40): the slot's state code, the evicted mask, the powered draw. -/
def State.powerData (s : State) (i : Slot) (mask : Word) : List Nat := [(s.slot i).state.code, mask.toNat, s.draw]

/-- A POWER job among the requesters of a power-up is answered. -/
def State.answerJob (s : State) (i : Slot) (p : Option PowerUp) (r : Result) (detail : Nat) (mask : Word) : State :=
  match p.bind fun q => q.job with
  | some (c, _) => s.complete c r detail (s.powerData i mask)
  | none => s

/-! ### Loading (R25, R26, R53) -/

/-- An AUTOLOAD or RELOAD request is queued: the slot goes to LOADING and its copy and record are cleared (R25, R53). -/
def State.queueLoad (s : State) (kind : BusKind) (i : Slot) (cells : List CellNo) : State :=
  (((s.enqueue (loadRequest kind i cells)).setCopy i none).emptyRecord i).modSlot i fun r =>
    { r with state := .loading }

/-- A slot reaches OFF (R26): when stale, the flag is cleared, the deferred reload is queued and it goes on to LOADING. -/
def State.reachOff (s : State) (i : Slot) : State :=
  let t := s.modSlot i fun r => { r.stopTimers with state := .off }
  if s.bus.stale.get i then (t.setStale i false).queueLoad .reload i [] else t

/-- The effect of a write that sent a data byte into descriptor bytes, by the slot's state at its end (R60). -/
def State.descriptorEffect (s : State) (i : Slot) : State × Nat :=
  match (s.slot i).state with
  | .off | .undescribed => (s.queueLoad .reload i [], 1)
  | .settling | .starting | .running | .onAir | .lost | .cooling | .fault => (s.setStale i true, 2)
  | .loading | .empty => (s, 0)

/-! ### Liveness (chapter 7) -/

/-- UNSTABLE or NO_SYNC takes a RUNNING or ON_AIR slot to LOST and starts its grace timer (R129). -/
def State.enterLost (s : State) (i : Slot) : State :=
  match (s.slot i).state with
  | .running | .onAir =>
    s.modSlot i fun r => { r with state := .lost, grace := some (s.figure i Descriptor.grace * 10) }
  | _ => s

/-- The state a LOST slot returns to at STABLE: ON_AIR while it is still the on-air source, else RUNNING (R130). -/
def State.returnState (s : State) (i : Slot) : SlotState :=
  if s.ho.onAir = some (.slot i) then .onAir else .running

/-- STABLE takes a STARTING slot to RUNNING and answers its requesters (R31), and a LOST slot back (R130). -/
def State.slotStable (s : State) (i : Slot) : State :=
  match (s.slot i).state with
  | .starting =>
    let t := s.modSlot i fun r => { r with state := .running, start := none, powerUp := none }
    t.answerJob i (s.slot i).powerUp .ok 0 (s.slot i).mask
  | .lost => s.modSlot i fun r => { r with state := s.returnState i, grace := none }
  | _ => s

/-- The restart decision (R132): the power is removed, and an automatic restart is requested while restarts are left. -/
def State.restartDecision (s : State) (i : Slot) : State :=
  (s.toCooling i).modSlot i fun r =>
    if 0 < (s.slot i).restarts then
      { r with restarts := (s.slot i).restarts - 1, powerUp := some { PowerUp.blank with auto := true } }
    else r

/-- A slot's last failure reason written (R21). -/
def State.setReason (s : State) (i : Slot) (f : FailReason) : State := s.modSlot i fun r => { r with reason := f }

/-- A release whose outgoing is a slot (R33): an ON_AIR slot goes to RUNNING; one in LOST stays LOST (R106). -/
def State.releaseSlot (s : State) (i : Slot) : State :=
  if (s.slot i).state = .onAir then s.modSlot i fun r => { r with state := .running } else s

/-- A cut onto a slot (R33): RUNNING to ON_AIR, and to the head of the warm list. -/
def State.cutSlot (s : State) (i : Slot) : State :=
  if (s.slot i).state = .running then
    { s.modSlot i fun r => { r with state := .onAir } with warm := i :: s.warm.erase i }
  else s

end Sys2Proof.Machine
end

