-- ==== Sys2Proof/Machine/HandOver.lean ====
section
/-! DEFINITION. The hand-over controller (chapter 6, and chapter 7 for the recovery), from its smallest operations up.
The order below is the order in which they rest on each other: judging readiness, FALLBACK, release, RECOVERY, the
return to QUIET, the announcements of the level, the cancel, failures, the SWITCH checks, the waiting job, the cut. -/

namespace Sys2Proof.Machine

/-- The phase changes (R100): the cabinet page is marked, and the cut arm is absent outside ALIGN (R97). -/
def State.setPhase (s : State) (p : Phase) : State :=
  { (if s.ho.phase = p then s else s.markCabinet) with
    ho.phase := p, raster.cutArm := if p = .align then s.raster.cutArm else none }

/-- Whether a source's record is stable. -/
def State.isStable (s : State) (src : Source) : Bool := (s.record src).stable

/-- Whether a source's last stable P lies within the monitor window in force. -/
def State.fitsMonitor (s : State) (src : Source) : Bool := s.raster.inWindow (s.record src).lastP

/-! ### Completing the active job (R113, R115, R126) -/

/-- Words 18 to 21 of a SWITCH that completes after its checks other than OK (R126). -/
def State.switchData (s : State) (j : SwitchJob) : List Nat := [j.target.number, s.ho.frames, s.ho.evicted.toNat, 0]

/-- The active job, if any, completes; there is then none. -/
def State.completeActive (s : State) (r : Result) (detail : Nat) (data : SwitchJob → List Nat) : State :=
  match s.ho.active with
  | some j => { s.complete j.cell r detail (data j) with ho.active := none }
  | none => s

/-- Word 17 of an OK after a cut: rough, cold, started from HOLD (R113). -/
def HandOver.okFlags (h : HandOver) : Nat :=
  (if h.rough then 1 else 0) + (if h.cold then 2 else 0) + (if h.fromHold then 4 else 0)

/-- The active job completes OK at the end of FADE_IN (R113), or with 0x8000 after a cancel (R115). -/
def State.completeActiveOk (s : State) : State :=
  if s.ho.cancelled then s.completeActive .ok 0x8000 fun _ => [sourceField s.ho.onAir, 0, 0, 0]
  else
    s.completeActive .ok s.ho.okFlags fun _ =>
      [sourceField s.ho.onAir, s.ho.frames, s.ho.evicted.toNat, s.ho.carried]

/-! ### Readiness and FALLBACK (R108, R109, R121) -/

/-- A ready source 0 in WAIT_TARGET takes the phase to GLIDE; its window check always passes (R109). -/
def State.judgeMenu (s : State) : State := if s.isStable .menu then s.setPhase .glide else s

/-- The controller withdraws from any pending power-up of its target (R32). -/
def State.withdrawTarget (s : State) : State :=
  match s.ho.target with
  | some (.slot i) => s.withdrawHandOver i
  | _ => s

/-- A FALLBACK between release and cut (R121): source 0 is the target, the cut feed closed with carry 0, the phase
WAIT_TARGET, and readiness is judged at once. -/
def State.fallback (s : State) (reason : FailReason) : State :=
  ({ s with ho.kind := .fallback, ho.target := some .menu, ho.lastFallback := reason, ho.cutFeed := false,
            ho.carry := 0, ho.active := none }.setPhase .waitTarget).judgeMenu

/-- A target failure between release and cut (R119, R138): the active job completes TARGET_FAILED, and the hand-over
becomes a FALLBACK with the failure's reason. -/
def State.failToFallback (s : State) (reason : FailReason) : State :=
  ((s.completeActive .targetFailed reason.code s.switchData).withdrawTarget).fallback reason

/-- Readiness judged in WAIT_TARGET (R108, R109, R137): stable and, for a slot, RUNNING; its last stable P is then
checked against the monitor window. -/
def State.judge (s : State) : State :=
  if s.ho.phase = .waitTarget then
    match s.ho.target with
    | some .menu => s.judgeMenu
    | some (.slot i) =>
      if s.isStable (.slot i) ∧ (s.slot i).state = .running then
        (if s.fitsMonitor (.slot i) then s.setPhase .glide else s.failToFallback .outOfRange)
      else s
    | none => s
  else s

/-! ### Leaving the air (R101, R106, R107, R123, R135) -/

/-- The generator starts HOLD at once (R89). -/
def State.holdNow (s : State) : State := { s with raster := s.raster.immediateHold s.sync.mtick }

/-- The slot manager is told of a release of the outgoing (R33). -/
def State.releaseOutgoing (s : State) : State :=
  match s.ho.outgoing with
  | some (.slot i) => s.releaseSlot i
  | _ => s

/-- A release, from the edge or from the timer, is handled (R106): the timer stops, on air becomes NONE, the audio
crosspoint leaves the outgoing, and the target's readiness is judged. -/
def State.releaseHandled (s : State) : State :=
  let t := { s with ho.onAir := none, ho.releaseTimer := none, router := s.router.driveNone }.releaseOutgoing
  ((t.setPhase .waitTarget).setWanted none).judge

/-- The outgoing fails before its release (R107, R140): HOLD at once as a release, the level forced to 0. -/
def State.outgoingFailure (s : State) : State := { s.holdNow with audio.current := 0 }.releaseHandled

/-- A loss start (R123, R135): HOLD at once, on air NONE, the level forced to 0, the crosspoint left, pins idle. The
phase becomes WAIT_TARGET. -/
def State.lossStart (s : State) : State :=
  let t := s.holdNow
  ({ t with ho.onAir := none, router := t.router.driveNone }.setPhase .waitTarget).muteAndLeave

/-- The outgoing's feed is recorded and closed and its pending pulses are returned (R105, R135, R165, R167). Source 0 has no
feed (R165): that it is recorded as closed is the model's choice (assumption 46). -/
def State.recordFeed (s : State) (src : Source) : State :=
  match src with
  | .slot i => { s.leaveAir i with ho.outgoingFeed := s.credit.feed.get i }
  | .menu => { s with ho.outgoingFeed := false }

/-- A RECOVERY of the on-air source (R135, R139). -/
def State.startRecovery (s : State) (src : Source) : State :=
  let t := (s.recordFeed src).lossStart
  { t with ho.kind := .recovery, ho.outgoing := some src, ho.target := some src, ho.active := none, ho.frames := 0,
           ho.rough := false, ho.cutFeed := t.ho.outgoingFeed, ho.carry := 0, ho.cancelled := false }.judge

/-- A FALLBACK at a loss start for an on-air slot removed or in over-current (R123). The outgoing feed keeps the value it
had, as R123 and R165 name no recording here; that is the model's choice (assumption 43). -/
def State.lossFallback (s : State) (i : Slot) (reason : FailReason) : State :=
  let t := (s.leaveAir i).lossStart
  { t with ho.kind := .fallback, ho.outgoing := some (.slot i), ho.target := some .menu, ho.lastFallback := reason,
           ho.active := none, ho.frames := 0, ho.rough := false, ho.cutFeed := false, ho.carry := 0,
           ho.cancelled := false }.judge

/-! ### The return to QUIET (R100, R113, R136) -/

/-- The phase returns to QUIET (R100): outgoing and target absent, kind none, frame count 0, flags clear. -/
def State.toQuiet (s : State) : State :=
  { s with ho.kind := .none, ho.outgoing := none, ho.target := none, ho.frames := 0, ho.rough := false,
           ho.cold := false, ho.fromHold := false, ho.cancelled := false, ho.releaseTimer := none }.setPhase .quiet

/-- The on-air source when it stands without stable sync: a slot in LOST, or source 0 not stable (R136). -/
def State.onAirUnstable (s : State) : Option Source :=
  match s.ho.onAir with
  | some .menu => if s.isStable .menu then none else some .menu
  | some (.slot i) => if (s.slot i).state = .lost then some (.slot i) else none
  | none => none

/-- The return to QUIET, starting a RECOVERY of an on-air source without stable sync (R136). -/
def State.returnToQuiet (s : State) : State :=
  match s.toQuiet.onAirUnstable with
  | some src => s.toQuiet.startRecovery src
  | none => s.toQuiet

/-- FADE_IN ends at the level reached (R113, R115). -/
def State.fadeInEnd (s : State) : State := s.completeActiveOk.returnToQuiet

/-- FADE_OUT ends at level zero (R105): RELEASE, the release ordered, the release timer started. -/
def State.enterRelease (s : State) : State :=
  { s.setPhase .release with
    ho.releaseTimer := some Config.releaseTimer,
    raster.releaseOrder := if s.raster.mode = .pass then s.ho.outgoing else s.raster.releaseOrder }

/-- The controller at an announcement of the level, when the level equals the target (R180): level zero ends FADE_OUT,
the target reached ends FADE_IN. The waiting job is not taken up here. -/
def State.levelAnnounced (s : State) : State :=
  if s.audio.current = s.audio.target then
    match s.ho.phase with
    | .fadeOut => if s.audio.current = 0 then s.enterRelease else s
    | .fadeIn => s.fadeInEnd
    | _ => s
  else s

/-! ### FADE_OUT and the cancel (R105, R115) -/

/-- Entry to FADE_OUT with an outgoing (R105). -/
def State.enterFadeOut (s : State) (src : Source) : State :=
  let t := (s.setPhase .fadeOut).recordFeed src
  ({ t with ho.outgoing := some src, router := t.router.driveNone }.recomputeAudio).levelAnnounced

/-- The feed of the source given back is reopened when the outgoing feed was open (R115, R165). -/
def State.reopenFeed (s : State) (src : Source) : State :=
  match src with
  | .slot i => if s.ho.outgoingFeed then { s with credit := s.credit.setFeed i true } else s
  | .menu => s

/-- A cancelled hand-over gives the cabinet back to the outgoing (R115). -/
def State.cancel (s : State) : State :=
  match s.ho.outgoing with
  | none => s
  | some src =>
    let t := s.withdrawTarget
    let u := { t with raster.releaseOrder := none, ho.releaseTimer := none, ho.target := some src, ho.outgoing := none,
                      ho.kind := .requested, ho.cancelled := true, router := t.router.driveSource src }
    (((u.setPhase .fadeIn).reopenFeed src).recomputeAudio).levelAnnounced

/-! ### Failures of a target (R119, R120, R138) -/

/-- A target failure (R119): before release the hand-over is cancelled, between release and cut it becomes a FALLBACK;
the active job completes TARGET_FAILED with the reason. -/
def State.targetFailure (s : State) (reason : FailReason) : State :=
  if s.ho.phase.beforeRelease then (s.completeActive .targetFailed reason.code s.switchData).cancel
  else if s.ho.phase.beforeCut then s.failToFallback reason
  else s

/-- Whether a slot is the target of a hand-over in flight. -/
def State.targets (s : State) (i : Slot) : Bool :=
  s.ho.phase.inFlight && decide (s.ho.target = some (.slot i))

/-- The pending power-up of the target fails (R120): the active job completes with the answer's code, no evicted slots. -/
def State.pendingFailed (s : State) (r : Result) (detail : Nat) (reason : FailReason) : State :=
  (s.completeActive r detail fun j => [j.target.number, s.ho.frames, 0, 0]).targetFailure reason

/-! ### The SWITCH checks and starts (R102 to R104, R114, R116) -/

/-- The outcome of a job's PREPARE checks (R103, R104): completed with a code and detail, the target already on air, or
passed, with the cold flag and the evicted mask. -/
inductive Verdict where
  | refused (r : Result) (detail : Nat)
  | present
  | passed (cold : Bool) (mask : Word)
deriving DecidableEq, Repr

/-- The verdict of the slot manager's answer (R104). -/
def Answer.verdict (a : Answer) (cold : Bool) (u : Undescribed) : Verdict :=
  match a with
  | .granted mask => .passed cold mask
  | .noBudget draw => .refused .noBudget draw
  | .noBoard => .refused .noBoard 0
  | .undescribed => .refused .undescribed u.detail
  | .fault => .refused .targetFailed FailReason.overcurrent.code
  | .already => .passed cold 0

/-- A power-up request of the controller for its job's slot (R104). -/
def State.requestFor (s : State) (i : Slot) (j : SwitchJob) (cold : Bool) : Verdict × State :=
  let a := s.request i (.handOver j.evict)
  (a.1.verdict cold (s.bus.undescribed.get i), a.2)

/-- The PREPARE checks of a slot target that is not on air (R103). -/
def State.prepareSlot (s : State) (i : Slot) (j : SwitchJob) : Verdict × State :=
  match (s.slot i).state with
  | .running | .onAir =>
    if s.fitsMonitor (.slot i) then (.passed false 0, s)
    else (.refused .outOfRange (s.record (.slot i)).lastP, s)
  | .lost => (.passed false 0, s)
  | .off | .cooling | .loading => s.requestFor i j true
  | .settling | .starting => s.requestFor i j false
  | .empty => (.refused .noBoard 0, s)
  | .undescribed => (.refused .undescribed (s.bus.undescribed.get i).detail, s)
  | .fault => (.refused .targetFailed FailReason.overcurrent.code, s)

/-- The PREPARE checks of a job (R103): the first row that applies gives the outcome. -/
def State.prepare (s : State) (j : SwitchJob) : Verdict × State :=
  if s.ho.onAir = some j.target then
    (if s.ho.phase = .prepare then (.present, s) else (.passed false 0, s))
  else
    match j.target with
    | .menu => (.passed false 0, s)
    | .slot i => s.prepareSlot i j

/-- The pin flag of a job that passes pins its target slot (R39, R104). -/
def State.applyPin (s : State) (j : SwitchJob) : State :=
  match j.target with
  | .slot i => if j.pin then s.modSlot i fun r => { r with pinned := true } else s
  | .menu => s

/-- The controller takes over a passing job's own figures (R104, R114). -/
def State.adopt (s : State) (j : SwitchJob) (cold : Bool) (mask : Word) : State :=
  { s with ho.kind := .requested, ho.active := some j, ho.rough := false, ho.cutFeed := j.feed, ho.carry := j.carry,
           ho.cold := cold, ho.evicted := mask, ho.fromHold := s.ho.onAir.isNone }

/-- A passing job in QUIET starts a hand-over (R104). -/
def State.startHandOver (s : State) (j : SwitchJob) (cold : Bool) (mask : Word) : State :=
  let t := { s.adopt j cold mask with ho.target := some j.target, ho.frames := 0, ho.cancelled := false }
  match t.ho.onAir with
  | some src => t.enterFadeOut src
  | none => ({ t with ho.outgoing := none }.setPhase .waitTarget).judge

/-- The target of the hand-over in flight is replaced (R114): FADE_OUT and RELEASE go on; later phases return to
WAIT_TARGET and readiness is judged at once. -/
def State.retargetTo (s : State) (target : Source) : State :=
  let t := { s.withdrawTarget with ho.target := some target }
  if t.ho.phase.beforeRelease then t else (t.setPhase .waitTarget).judge

/-- A passing job before the cut (R114, R124): the active job is superseded, and the job cancels the hand-over, takes it
over as it stands, or replaces its target. -/
def State.replaceActive (s : State) (j : SwitchJob) (cold : Bool) (mask : Word) : State :=
  let t := (s.completeActive .superseded 0 s.switchData).adopt j cold mask
  if t.ho.onAir = some j.target then t.cancel
  else if t.ho.target = some j.target then t
  else t.retargetTo j.target

/-- A SWITCH taken in FADE_IN becomes the waiting job; one that waited completes SUPERSEDED (R116). -/
def State.makeWait (s : State) (j : SwitchJob) : State :=
  let t := match s.ho.waiting with
    | some w => s.complete w.cell .superseded 0 []
    | none => s
  { t with ho.waiting := some j }

/-- A SWITCH completed at its checks (R103, R126): with its code and detail, or OK with 0x8000 and the target. -/
def State.completeAtChecks (s : State) (j : SwitchJob) (v : Verdict) : State :=
  match v with
  | .refused r detail => s.complete j.cell r detail []
  | .present => (s.applyPin j).complete j.cell .ok 0x8000 [j.target.number, 0, 0, 0]
  | .passed _ _ => s

/-- A SWITCH in QUIET: PREPARE for its checks, then the hand-over or QUIET again (R102). -/
def State.switchInQuiet (s : State) (j : SwitchJob) : State :=
  let v := (s.setPhase .prepare).prepare j
  match v.1 with
  | .passed cold mask => (v.2.applyPin j).startHandOver j cold mask
  | .refused _ _ | .present => (v.2.completeAtChecks j v.1).setPhase .quiet

/-- A SWITCH before the cut: its checks run against its own target while the hand-over goes on (R114). -/
def State.switchInFlight (s : State) (j : SwitchJob) : State :=
  let v := s.prepare j
  match v.1 with
  | .passed cold mask => (v.2.applyPin j).replaceActive j cold mask
  | .refused _ _ | .present => v.2.completeAtChecks j v.1

/-- A SWITCH job treated by the phase at its take (R102). -/
def State.takeSwitch (s : State) (j : SwitchJob) : State :=
  match s.ho.phase with
  | .quiet | .prepare => s.switchInQuiet j
  | .fadeIn => s.makeWait j
  | .fadeOut | .release | .waitTarget | .glide | .align => s.switchInFlight j

/-- The waiting job, if any, leaves the waiting place and is treated as at a take (R113, R116, R124). -/
def State.takeUpWaiting (s : State) : State :=
  match s.ho.waiting with
  | some j => { s with ho.waiting := none }.takeSwitch j
  | none => s

/-- The controller at an announcement of the level, with the waiting job taken up at the end of a FADE_IN (R113, R180). -/
def State.levelReached (s : State) : State :=
  if s.ho.phase = .fadeIn ∧ s.audio.current = s.audio.target then s.levelAnnounced.takeUpWaiting
  else s.levelAnnounced

/-- The announcement after a source's ratio is set: made when that recomputed the target, the source being the wanted one
(R178, R180). -/
def State.ratioAnnounced (s : State) (src : Source) : State := if s.audio.wanted = some src then s.levelReached else s

/-! ### Events of the on-air source, the outgoing and the target -/

/-- A failure of the on-air source during FADE_IN (R113): the active job completes OK as it stands, the phase becomes
QUIET, the failure is handled as in QUIET, and the waiting job is then taken up. -/
def State.failInFadeIn (s : State) (handle : State → State) : State :=
  (handle s.completeActiveOk.toQuiet).takeUpWaiting

/-- UNSTABLE or NO_SYNC of a source reaches the controller (R107, R111, R113, R135). -/
def State.controllerLoses (s : State) (src : Source) (noSync : Bool) : State :=
  match s.ho.phase with
  | .quiet | .prepare => if s.ho.onAir = some src then s.startRecovery src else s
  | .fadeIn => if s.ho.onAir = some src then s.failInFadeIn fun t => t.startRecovery src else s
  | .fadeOut | .release => if noSync ∧ s.ho.outgoing = some src then s.outgoingFailure else s
  | .glide | .align => if s.ho.target = some src then (s.setPhase .waitTarget).judge else s
  | .waitTarget => s

/-- A removal or over-current of a slot reaches the controller (R107, R113, R119, R123, R138). -/
def State.controllerSlotFails (s : State) (i : Slot) (reason : FailReason) : State :=
  match s.ho.phase with
  | .quiet | .prepare => if s.ho.onAir = some (.slot i) then s.lossFallback i reason else s
  | .fadeIn => if s.ho.onAir = some (.slot i) then s.failInFadeIn fun t => t.lossFallback i reason else s
  | .fadeOut | .release =>
    if s.ho.outgoing = some (.slot i) then s.outgoingFailure
    else if s.ho.target = some (.slot i) then s.targetFailure reason else s
  | .waitTarget | .glide | .align => if s.ho.target = some (.slot i) then s.targetFailure reason else s

/-- The report of a start or grace timer's expiry reaches the controller (R127, R138, R140). -/
def State.controllerExpiry (s : State) (i : Slot) (reason : FailReason) : State :=
  match s.ho.phase with
  | .fadeOut | .release =>
    if s.ho.outgoing = some (.slot i) then s.outgoingFailure
    else if s.ho.target = some (.slot i) then s.targetFailure reason else s
  | .waitTarget | .glide | .align => if s.ho.target = some (.slot i) then s.targetFailure reason else s
  | .quiet | .prepare | .fadeIn => s

/-- The exit chord with RETURN (R122): a FALLBACK with reason CHORD from the on-air slot, entering FADE_OUT. -/
def State.chordFallback (s : State) (i : Slot) : State :=
  { s with ho.kind := .fallback, ho.target := some .menu, ho.active := none, ho.frames := 0, ho.rough := false,
           ho.cutFeed := false, ho.carry := 0, ho.cancelled := false,
           ho.lastFallback := .chord }.enterFadeOut (.slot i)

/-! ### Findings at a holding frame end and the cut (R110, R112) -/

/-- A holding frame end between release and cut adds 1 to the frame count, saturating (R106, R110). -/
def State.countFrame (s : State) : State :=
  if s.ho.phase.beforeCut then { s with ho.frames := min 65535 (s.ho.frames + 1) } else s

/-- The controller acts on what the frame end found (R110). Source 0 does not fail as a target (R119). -/
def State.onFinding (s : State) (f : Finding) : State :=
  match f with
  | .nothing => s
  | .notStable => s
  | .glideComplete => if s.ho.phase = .glide then s.setPhase .align else s
  | .armed rough => { s with ho.rough := rough }
  | .outOfWindow =>
    match s.ho.target with
    | some (.slot _) => s.targetFailure .outOfRange
    | _ => s

/-- The carry count handed to the credit unit: 0 for a hand-over with no active job (R170). -/
def HandOver.handedCarry (h : HandOver) : Nat := if h.active.isSome then h.carry else 0

/-- The credit unit at a cut (R165, R170): the carry moves, and the feed opens when the cut feed is open. -/
def State.cutCredit (s : State) (src : Source) : State :=
  match src with
  | .menu => { s with ho.carried := 0 }
  | .slot i =>
    let n := s.carryUnits i s.ho.handedCarry
    let c := s.credit.moveToPending i n
    { s with credit := if s.ho.cutFeed then c.setFeed i true else c, ho.carried := n }

/-- The slot manager at a cut (R33). -/
def State.cutSource (s : State) (src : Source) : State :=
  match src with
  | .slot i => s.cutSlot i
  | .menu => s

/-- The controller at the cut (R112). -/
def State.cutHandled (s : State) (src : Source) (rough : Bool) : State :=
  let t := ({ s with ho.onAir := some src, ho.rough := rough, ho.cancelled := false }.cutSource src).cutCredit src
  (({ t with router := t.router.driveSource src }.setPhase .fadeIn).setWanted (some src)).levelReached

/-! ### ABORT and the soft restart (R117, R118, R125) -/

/-- Whether the outgoing is usable to an ABORT: RUNNING or source 0, stable, within the monitor window (R118). A slot that
failed by R123 and is RUNNING again is judged by its state like any other (assumption 43). -/
def State.usable (s : State) (src : Source) : Bool :=
  s.isStable src && s.fitsMonitor src &&
    (match src with
      | .menu => true
      | .slot i => decide ((s.slot i).state = .running))

/-- A usable outgoing becomes the target again (R118). -/
def State.backToOutgoing (s : State) (src : Source) : State :=
  let t := if s.ho.target = some src then s else s.withdrawTarget
  ({ t with ho.target := some src, ho.kind := .requested, ho.cutFeed := t.ho.outgoingFeed,
            ho.carry := 0 }.setPhase .waitTarget).judge

/-- The target is chosen anew at an ABORT between release and cut (R118). -/
def State.chooseAnew (s : State) : State :=
  match s.ho.outgoing with
  | some src => if s.usable src then s.backToOutgoing src else (s.withdrawTarget).fallback .none
  | none => (s.withdrawTarget).fallback .none

/-- The controller at the start of a soft restart (R125): both jobs are dropped and the hand-over is treated by where it
stands. -/
def State.restartHandOver (s : State) : State :=
  let t := { s with ho.active := none, ho.waiting := none }
  match t.ho.phase, t.ho.kind with
  | .fadeOut, .requested | .release, .requested | .prepare, .requested => t.cancel
  | .waitTarget, .requested | .glide, .requested | .align, .requested => (t.withdrawTarget).fallback .restart
  | _, _ => t

end Sys2Proof.Machine
end

