-- ==== Sys2Proof/Machine/AudioEvents.lean ====
section
/-! DEFINITION. The audio level unit's event: a ramp step and its announcement (R179, R180). -/

namespace Sys2Proof.Machine

/-- A ramp step at an ms tick, with the controller's part in the announcement of the level (R179, R180). -/
def State.rampTick (s : State) : State := if s.rampDue then s.rampOnce.levelReached else s

/-- RAMP_STEP (R179). -/
def execRampStep (s : State) : Host.Outcome State Fault Refusal := finish s s.rampTick

end Sys2Proof.Machine
end

