-- ==== Sys2Proof/Machine/HostWrites.lean ====
section
/-! DEFINITION. The host's writes into the shared window, the soft restart, power-on reset, and the page writer (chapter 1,
with the restart rules R46, R63, R125 and R158). -/

namespace Sys2Proof.Machine

/-! ### POST, DONE, NOTICE, NOTICE_MASK (R3 to R7, R11) -/

/-- Whether a posting bit for a cell posts it (R6): the cell is FREE and no soft restart is in progress. -/
def State.postable (s : State) (c : CellNo) : Bool := decide (s.cell c = .free) && !s.intake.restarting

/-- The cells whose bits a value sets, in ascending number. -/
def cellsIn (value : Word) : List CellNo := allCells.filter fun c => value.getLsbD c.val

/-- A cell is posted (R6): POSTED, at the tail of the intake list. -/
def State.postCell (s : State) (c : CellNo) : State :=
  { s.setCell c .posted with intake.list := s.intake.list ++ [c] }

/-- The reason of the intake fault a posting bit gives (R6, R7). -/
def State.postFault (s : State) : IntakeFault := if s.intake.restarting then .restarting else .cellBusy

/-- A write to POST (R6): each set bit is judged on the cells as the write finds them; the postings come first, then the
faults, both in ascending cell number. -/
def State.writePost (s : State) (value : Word) : State :=
  let posted := ((cellsIn value).filter s.postable).foldl State.postCell s
  ((cellsIn value).filter fun c => !s.postable c).foldl (fun t c => t.intakeFault c s.postFault) posted

/-- A DONE cell returns to FREE; any other cell is left as it is (R11). -/
def State.returnCell (s : State) (c : CellNo) : State := if s.cell c = .done then s.setCell c .free else s

/-- A write to DONE (R11). -/
def State.writeDone (s : State) (value : Word) : State := (cellsIn value).foldl State.returnCell s

/-- A write to NOTICE clears each bit written as 1 (R4). -/
def State.writeNotice (s : State) (value : Word) : State := { s with intake.notice := s.intake.notice &&& ~~~ value }

/-- A write to NOTICE_MASK stores bits 0 to 12 and 15 (R3, R5). -/
def State.writeMask (s : State) (value : Word) : State := { s with intake.mask := value &&& 0x9FFF }

/-! ### The soft restart (R16, R17, R46, R63, R125, R158) -/

/-- The intake at the start of a soft restart (R16); the intake fault record stays (R7). -/
def Intake.restart (n : Intake) : Intake :=
  { n with cells := Vector.replicate 16 .free, list := [], notice := 0, mask := 0, restarting := true }

/-- The control router at the start of a soft restart (R158). -/
def Router.restart (r : Router) : Router :=
  { r with pendingMaps := PerSlot.const none, restartHold := true, chordFreeze := false,
           chordTimer := 0 }.resetStates.idlePins

/-- The slot manager drops every POWER job it holds (R46). -/
def State.dropPowerJobs (s : State) : State := Slot.all.foldl State.withdrawJob s

/-- What stays of the waiting requests at a soft restart (R63): AUTOLOAD and RELOAD requests, without their cells. -/
def keptRequests (queue : List BusRequest) : List BusRequest :=
  (queue.filter BusRequest.isLoad).map fun q => { q with cells := [] }

/-- The descriptor effect of a write that sent a data byte (R60): none for a write outside the descriptor bytes. -/
def State.writeEffect (s : State) (q : BusRequest) : State × Nat :=
  if q.touchesDescriptor then s.descriptorEffect q.slot else (s, 0)

/-- The instant at which a write recovery interval that begins now ends: 10 ms after this STOP (R50). -/
def State.recoveryEnd (s : State) : Stamp := s.sync.mtick + BitVec.ofNat 32 Config.writeRecovery

/-- A write stopped after a data byte, without an acknowledged poll, leaves the queue: a write recovery interval begins
and the descriptor effect is applied (R50, R60, R63). -/
def State.stopWrite (s : State) (q : BusRequest) : State × Nat :=
  { s.dequeue with bus.recovery := some (q.slot, s.recoveryEnd) }.writeEffect q

/-- The adapter bus at the start of a soft restart (R63): waiting READ and WRITE requests and attached cells are dropped;
a READ or WRITE transaction in flight is to stop at the end of its byte, or of the acknowledge poll in progress, and a write
between polls stops at once. A poll is in progress from the ms tick at which it is due to its outcome (assumption 29). -/
def State.restartBus (s : State) : State :=
  match s.serving with
  | none => { s with bus.queue := keptRequests s.bus.queue }
  | some q =>
    if q.isLoad then { s with bus.queue := keptRequests s.bus.queue }
    else
      let t := { s with bus.queue := q :: keptRequests s.bus.queue.tail }
      match s.bus.phase with
      | .polling _ due => if reached due s.sync.mtick then { t with bus.stopping := true } else (t.stopWrite q).1
      | .idle | .reading | .writing => { t with bus.stopping := true }

/-- The end of a soft restart (R17, R158): CONTROL bit 0 reads 0, every page is marked, the restart hold ends. -/
def State.endRestart (s : State) : State :=
  { s.markAll with intake.restarting := false, router := { s.router with restartHold := false }.resetStates }

/-- A soft restart starts (R16); it ends at once when no job transaction is in flight (R17). -/
def State.startRestart (s : State) : State :=
  let t := { s with intake := s.intake.restart, router := s.router.restart }
  let u := t.dropPowerJobs.restartHandOver.restartBus
  if u.bus.stopping then u else u.endRestart

/-- A write to CONTROL (R16): bit 0 starts a soft restart when none is in progress. -/
def State.writeControl (s : State) (value : Word) : State :=
  if value.getLsbD 0 && !s.intake.restarting then s.startRestart else s

/-- The acknowledge poll that a soft restart found in progress has ended, and the write with it (R49, R50, R63): acknowledged
it has succeeded, and at the 10th poll it has timed out, either way with its descriptor effect and no recovery interval;
otherwise it is stopped. Its job is dropped (assumption 29). -/
def State.stopPolling (s : State) (q : BusRequest) (polls : Nat) (acknowledged : Bool) : State :=
  if acknowledged || decide (Config.pollLimit ≤ polls + 1) then (s.dequeue.writeEffect q).1 else (s.stopWrite q).1

/-- The stopped job transaction leaves the queue, a write having sent a data byte or not (R63). A write in polling has, and
its poll in progress has gone unacknowledged: the end of an acknowledged one is ACK_POLL (assumption 29). -/
def State.stopTransaction (s : State) (dataByteSent : Bool) : State :=
  match s.bus.queue with
  | [] => s.dequeue
  | q :: _ =>
    match s.bus.phase with
    | .polling polls _ => s.stopPolling q polls false
    | .idle | .reading | .writing => if q.kind = .write ∧ dataByteSent = true then (s.stopWrite q).1 else s.dequeue

/-- The bus reports that the job transaction has stopped (R17, R63). -/
def State.busStopped (s : State) (dataByteSent : Bool) : State :=
  if s.intake.restarting then
    (if s.bus.stopping then s.stopTransaction dataByteSent else s).endRestart
  else s

/-! ### Writes at a window address (R1, R3) -/

/-- A host write to a register (R3). -/
def State.writeRegister (s : State) (r : Register) (value : Word) : State :=
  match r with
  | .post => s.writePost value
  | .done => s.writeDone value
  | .notice => s.writeNotice value
  | .noticeMask => s.writeMask value
  | .control => s.writeControl value
  | .ident => s

/-- A host write at a window address: a memory word, or the register that stands there (R1, R3). -/
def State.writeAt (s : State) (addr : BitVec 13) (value : Word) : State :=
  match registerAt addr.toNat with
  | some r => s.writeRegister r value
  | none => s.writeMem addr.toNat [value]

/-! ### The page writer (R13, R14, R80) -/

/-- The record of a source as its page is written: shown P and L become the reported ones (R80). -/
def State.notePage (s : State) : PageId → State
  | .source src =>
    let r := s.record src
    s.setRecord src { r with shownP := r.p, shownL := r.l }
  | .cabinet => s

/-- Whether a page's update can begin: it is marked and no update of it is in progress (R13, R14). -/
def Page.due (p : Page) : Bool := p.mark && decide (p.count.getLsbD 0 = false)

/-- An update begins (R13): the mark is cleared, the count made odd and written to word 0, every other word written. -/
def State.pageStart (s : State) (id : PageId) : State :=
  let p := s.pages.get id
  if p.due then
    { s.writeMem (pageBase id) ((p.count + 1) :: s.pageWords id) with
      pages := s.pages.set id { count := p.count + 1, mark := false } }.notePage id
  else s

/-- The NOTICE bit of a page (R4). -/
def pageNotice : PageId → Nat
  | .source src => src.number
  | .cabinet => 9

/-- An update ends (R13): the count made even and written to word 0, the page's NOTICE bit set. -/
def State.pageEnd (s : State) (id : PageId) : State :=
  let p := s.pages.get id
  if p.count.getLsbD 0 then
    { s.writeMem (pageBase id) [p.count + 1] with
      pages := s.pages.set id { p with count := p.count + 1 } }.setNotice (pageNotice id)
  else s

/-! ### The meanings -/

/-- WINDOW_WRITE (R1). At a register's address the access acts on the register. -/
def execWindowWrite (addr : BitVec 13) (value : Word) (s : State) : Host.Outcome State Fault Refusal :=
  finish s (s.writeAt addr value)

/-- POST (R6). -/
def execPost (value : Word) (s : State) : Host.Outcome State Fault Refusal := finish s (s.writePost value)

/-- DONE (R11). -/
def execDone (value : Word) (s : State) : Host.Outcome State Fault Refusal := finish s (s.writeDone value)

/-- NOTICE (R4). -/
def execNotice (value : Word) (s : State) : Host.Outcome State Fault Refusal := finish s (s.writeNotice value)

/-- NOTICE_MASK (R5). -/
def execNoticeMask (value : Word) (s : State) : Host.Outcome State Fault Refusal := finish s (s.writeMask value)

/-- WRITE_NO_EFFECT (R3): what a write carries for IDENT, or for bits that the table of section 1.2 does not name, has no
effect (assumption 12). -/
def execWriteNoEffect (_reg : Register) (_value : Word) (s : State) : Host.Outcome State Fault Refusal := finish s s

/-- SOFT_RESTART (R16): a write to CONTROL. -/
def execSoftRestart (value : Word) (s : State) : Host.Outcome State Fault Refusal := finish s (s.writeControl value)

/-- SOFT_RESTART_END (R17). -/
def execSoftRestartEnd (dataByteSent : Bool) (s : State) : Host.Outcome State Fault Refusal :=
  finish s (s.busStopped dataByteSent)

/-- POWER_ON_RESET (R18): every block at its reset value. The input lines are driven from outside and stand as they do;
the model's queue of commands is not the part's. -/
def execPowerOnReset (s : State) : Host.Outcome State Fault Refusal :=
  .next { State.reset with pending := s.pending, pins := s.pins }

/-- PAGE_UPDATE_START (R13). -/
def execPageUpdateStart (page : PageId) (s : State) : Host.Outcome State Fault Refusal := finish s (s.pageStart page)

/-- PAGE_UPDATE_END (R13). -/
def execPageUpdateEnd (page : PageId) (s : State) : Host.Outcome State Fault Refusal := finish s (s.pageEnd page)

end Sys2Proof.Machine
end

