-- ==== Sys2Proof/Machine/SlotEvents.lean ====
section
/-! DEFINITION. The slots' own events: presence, removal, over-current and the four timers (R22 to R36, R62, R66, R127 to
R133, R144, R168). A timer's expiry acts whatever ms it has left: the command stands for the expiry itself (assumption 8). -/

namespace Sys2Proof.Machine

/-- PRESENCE_DETECTED (R22, R25): an EMPTY slot goes to LOADING with an AUTOLOAD request queued. -/
def State.presence (s : State) (i : Slot) : State :=
  if (s.slot i).state = .empty then
    { s with pins.presence := s.pins.presence.set i true }.queueLoad .autoload i [] |>.modSlot i fun r =>
      { r with presenceCount := 0 }
  else s

/-! ### Removal (R23, R24) -/

/-- The slot's own changes at removal (R23). -/
def State.emptySlot (s : State) (i : Slot) : State :=
  { s.setSlot i { SlotRec.reset with reason := .removed } with
    warm := s.warm.erase i, pins.presence := s.pins.presence.set i false }

/-- The cells carried by a slot's bus requests (R62). -/
def cellsFor (i : Slot) (queue : List BusRequest) : List CellNo :=
  (queue.filter fun q => decide (q.slot = i)).flatMap BusRequest.cells

/-- Whether the transaction in flight is for a slot (R62). -/
def State.servingSlot (s : State) (i : Slot) : Bool :=
  match s.serving with
  | some q => decide (q.slot = i)
  | none => false

/-- The bus with a slot's requests, transaction, recovery interval, copy and flags gone (R62). -/
def Bus.withoutSlot (i : Slot) (inFlight : Bool) (b : Bus) : Bus :=
  { b with queue := b.queue.filter fun q => decide (q.slot ≠ i),
           phase := if inFlight then .idle else b.phase,
           stopping := if inFlight then false else b.stopping,
           recovery := match b.recovery with
             | some (j, left) => if j = i then none else some (j, left)
             | none => none,
           copies := b.copies.set i none, stale := b.stale.set i false, undescribed := b.undescribed.set i .none }

/-- The adapter bus at a removal (R62): its jobs complete NO_BOARD. A soft restart that waited for the slot's transaction
ends (R17; assumption 14). -/
def State.removeBus (s : State) (i : Slot) : State :=
  let t := { s.completeAll (cellsFor i s.bus.queue) .noBoard 0 [] with
             bus := s.bus.withoutSlot i (s.servingSlot i) }.markCabinet
  if s.bus.stopping && !t.bus.stopping && s.intake.restarting then t.endRestart else t

/-- The control router at a removal (R144, R149): the map is emptied, a pending map's job completes NO_BOARD, and a driven
slot is driven no more. -/
def State.removeRouter (s : State) (i : Slot) : State :=
  let t := match s.router.pendingMaps.get i with
    | some p => s.complete p.2 .noBoard 0 []
    | none => s
  let r := { t.router with maps := t.router.maps.set i ControlMap.blank, pendingMaps := t.router.pendingMaps.set i none }
  { t with router := if r.driven = some i then r.driveNone else r }

/-- REMOVAL (R23, R24): the slot manager first, then the owners of the slot's other state, the hand-over controller last. -/
def State.removeSlot (s : State) (i : Slot) : State :=
  if (s.slot i).state = .empty then s
  else
    let t := (s.emptySlot i).answerJob i (s.slot i).powerUp .noBoard 0 (s.slot i).mask
    ((((t.removeBus i).emptyRecord i).removeCredit i).removeRouter i).controllerSlotFails i .removed

/-! ### Over-current (R35) -/

/-- The slot's own changes at an over-current (R35). -/
def State.faultSlot (s : State) (i : Slot) : State :=
  { s.modSlot i fun r =>
      { r.stopTimers with state := .fault, reason := .overcurrent, overCount := 0, powerUp := none } with
    warm := s.warm.erase i }

/-- OVERCURRENT (R35): FAULT, the requesters answered, the pending pulses returned, the controller told. -/
def State.overcurrent (s : State) (i : Slot) : State :=
  if (s.slot i).state.powered then
    (((s.faultSlot i).answerJob i (s.slot i).powerUp .fault 0 (s.slot i).mask).leaveAir i).controllerSlotFails i
      .overcurrent
  else s

/-! ### Timers (R30, R34, R128, R131) -/

/-- SETTLE_TIMER_EXPIRY (R30, R78, R128): STARTING, the start timer started, a new run asked for. -/
def State.settled (s : State) (i : Slot) : State :=
  if (s.slot i).state = .settling then
    (s.modSlot i fun r =>
      { r with state := .starting, settle := none,
               start := some (s.figure i Descriptor.startTimeout * 100) }).requestNewRun i
  else s

/-- START_TIMER_EXPIRY (R128): reason, report, restart decision, and the requesters answered, in that order. -/
def State.startFailed (s : State) (i : Slot) : State :=
  if (s.slot i).state = .starting then
    (((s.setReason i .startTimeout).controllerExpiry i .startTimeout).restartDecision i).answerJob i
      (s.slot i).powerUp .startTimeout 0 0
  else s

/-- GRACE_TIMER_EXPIRY (R131): reason, report, restart decision. -/
def State.graceOver (s : State) (i : Slot) : State :=
  if (s.slot i).state = .lost then ((s.setReason i .lost).controllerExpiry i .lost).restartDecision i else s

/-- The hand-over controller learns of the slots evicted for its target's power-up (R120). -/
def State.reportMask (s : State) (i : Slot) (p : PowerUp) (mask : Word) : State :=
  if p.handOver.isSome && s.targets i then { s with ho.evicted := mask } else s

/-- A pending power-up is gone and its requesters are answered with a failure (R26, R29, R120): a POWER job, and the
hand-over controller when the slot is its target. -/
def State.failPending (s : State) (i : Slot) (p : PowerUp) (r : Result) (detail : Nat) (reason : FailReason) : State :=
  let t := (s.modSlot i fun q => { q with powerUp := none }).answerJob i (some p) r detail 0
  if p.handOver.isSome && s.targets i then t.pendingFailed r detail reason else t

/-- The power-up check of a pending power-up at a slot that has come to OFF (R28, R29, R34): it passes, or every requester
is answered NO_BUDGET, an automatic restart leaving that reason behind. -/
def State.checkPending (s : State) (i : Slot) : State :=
  match (s.slot i).powerUp with
  | none => s
  | some p =>
    match s.check i p.evict with
    | some vs => (s.powerSlot i vs).reportMask i p (maskOf vs)
    | none => (if p.auto then s.setReason i .noBudget else s).failPending i p .noBudget s.draw .noBudget

/-- COOL_TIMER_EXPIRY (R34): OFF, then LOADING when stale, or the check of a pending power-up. -/
def State.cooled (s : State) (i : Slot) : State :=
  if (s.slot i).state = .cooling then
    let t := s.reachOff i
    if (t.slot i).state = .off then t.checkPending i else t
  else s

/-! ### The meanings -/

/-- PRESENCE_DETECTED (R22). -/
def execPresenceDetected (slot : Slot) (s : State) : Host.Outcome State Fault Refusal := finish s (s.presence slot)

/-- REMOVAL (R23). -/
def execRemoval (slot : Slot) (s : State) : Host.Outcome State Fault Refusal := finish s (s.removeSlot slot)

/-- OVERCURRENT (R35). -/
def execOvercurrent (slot : Slot) (s : State) : Host.Outcome State Fault Refusal := finish s (s.overcurrent slot)

/-- SETTLE_TIMER_EXPIRY (R30). -/
def execSettleTimerExpiry (slot : Slot) (s : State) : Host.Outcome State Fault Refusal := finish s (s.settled slot)

/-- START_TIMER_EXPIRY (R128). -/
def execStartTimerExpiry (slot : Slot) (s : State) : Host.Outcome State Fault Refusal := finish s (s.startFailed slot)

/-- GRACE_TIMER_EXPIRY (R131). -/
def execGraceTimerExpiry (slot : Slot) (s : State) : Host.Outcome State Fault Refusal := finish s (s.graceOver slot)

/-- COOL_TIMER_EXPIRY (R34). -/
def execCoolTimerExpiry (slot : Slot) (s : State) : Host.Outcome State Fault Refusal := finish s (s.cooled slot)

end Sys2Proof.Machine
end

