-- ==== Sys2Proof/Machine/BusEvents.lean ====
section
/-! DEFINITION. The adapter bus's events: the start and the ends of transactions, validation, polling, recovery (R48 to
R60). A transaction that a soft restart is stopping ends by SOFT_RESTART_END, or by the outcome of its acknowledge poll, and
by nothing else (R63). -/

namespace Sys2Proof.Machine

/-- BUS_REQUEST_START (R51): an idle bus with no recovery interval running serves the head request. -/
def State.startRequest (s : State) : State :=
  match s.bus.phase, s.bus.recovery, s.bus.queue with
  | .idle, none, q :: _ => { s with bus.phase := if q.kind = .write then .writing else .reading }
  | _, _, _ => s

/-! ### Autoload (R53 to R56) -/

/-- The router takes the pin count of a new descriptor copy (R144). -/
def State.refitMap (s : State) (i : Slot) (d : Descriptor) : State :=
  { s with router.maps := s.router.maps.set i ((s.router.maps.get i).fitted d.pinCount) }

/-- A successful autoload (R25, R26, R55): the copy stored and announced, the attached jobs complete OK, a pending power-up
kept through the load is checked, and the level is announced where the new ratio is the on-air source's (R177, R180). That
the announcement comes last is the model's choice (assumption 45). -/
def State.loaded (s : State) (i : Slot) (d : Descriptor) (cells : List CellNo) : State :=
  let t := ((s.setCopy i (some d)).setUndescribed i .none).modSlot i fun r =>
    { r with state := .off, restarts := d.allowance }
  let u := ((t.wakeRecord i).refitMap i d).setRatio (.slot i) d.ratio
  ((u.completeAll cells .ok 0 [d.title, d.drawClass]).checkPending i).ratioAnnounced (.slot i)

/-- A failed autoload (R26, R56): UNDESCRIBED with its reason, the attached jobs and a kept power-up's requesters
answered. -/
def State.loadFailed (s : State) (i : Slot) (u : Undescribed) (cells : List CellNo) : State :=
  let t := (((s.setUndescribed i u).modSlot i fun r => { r with state := .undescribed }).markSource (.slot i)).completeAll
    cells .undescribed u.detail []
  match (t.slot i).powerUp with
  | some p => t.failPending i p .undescribed u.detail .none
  | none => t

/-- The bytes of a read handed to the request that asked for them (R48, R54, R57). -/
def State.readDone (s : State) (q : BusRequest) (bytes : List Byte) : State :=
  if q.isLoad then
    match descriptorFailure bytes with
    | some u => s.dequeue.loadFailed q.slot u q.cells
    | none => s.dequeue.loaded q.slot (descriptorOf bytes) q.cells
  else s.dequeue.completeAll q.cells .ok 0 (packBytes bytes)

/-- The request being served, when its transaction is not being stopped by a soft restart. -/
def State.running (s : State) : Option BusRequest := if s.bus.stopping then none else s.serving

/-- READ_TRANSACTION_END (R48): the read of as many bytes as the request asks for has reached STOP. -/
def State.endRead (s : State) (bytes : List Byte) : State :=
  match s.running with
  | some q => if s.bus.phase = .reading ∧ bytes.length = q.len then s.readDone q bytes else s
  | none => s

/-! ### Writes (R49, R50, R59, R60) -/

/-- The instant of the first ms tick that comes at least 1 ms after `t`, the ticks standing 24000 mticks apart (R49). -/
def Sync.firstTickAfterMs (t : Stamp) (u : Sync) : Stamp :=
  u.tickAt + BitVec.ofNat 32 ((ticksFrom u.tickAt t + 2 * Config.mticksPerMs - 1) / Config.mticksPerMs * Config.mticksPerMs)

/-- WRITE_DATA_STOP (R49): polling begins, the first poll due at the first ms tick at least 1 ms after this STOP. -/
def State.dataStop (s : State) : State :=
  if s.running.isSome ∧ s.bus.phase = .writing then
    { s with bus.phase := .polling 0 (s.sync.firstTickAfterMs s.sync.mtick) }
  else s

/-- A write ends after its polling (R59, R60): the descriptor effect is applied, then the job completes. -/
def State.endWrite (s : State) (q : BusRequest) (r : Result) (polls : Nat) : State :=
  let t := s.dequeue.writeEffect q
  t.1.completeAll q.cells r 0 [polls, t.2]

/-- The outcome of the poll of the ms tick at `due` (R49): acknowledged, the write succeeds; the 10th unacknowledged ends
it; another is due at the next ms tick. -/
def State.polled (s : State) (q : BusRequest) (polls : Nat) (due : Stamp) (acknowledged : Bool) : State :=
  if acknowledged then s.endWrite q .ok (polls + 1)
  else if polls + 1 < Config.pollLimit then { s with bus.phase := .polling (polls + 1) (nextTick due) }
  else s.endWrite q .writeTimeout Config.pollLimit

/-- The outcome of a poll that a soft restart waited for: the write has ended, and the restart with it (R17, R63). -/
def State.polledAtRestart (s : State) (q : BusRequest) (polls : Nat) (acknowledged : Bool) : State :=
  let t := s.stopPolling q polls acknowledged
  if s.intake.restarting then t.endRestart else t

/-- ACK_POLL (R49): the poll of the ms tick at which the next poll is due; the mtick counter has run on to it. -/
def State.poll (s : State) (acknowledged : Bool) : State :=
  match s.serving, s.bus.phase with
  | some q, .polling polls due =>
    if s.bus.stopping then (s.advanceTo due).polledAtRestart q polls acknowledged
    else (s.advanceTo due).polled q polls due acknowledged
  | _, _ => s

/-- WRITE_TIMEOUT (R49): the 10th poll goes unacknowledged, at its ms tick. -/
def State.pollTimeout (s : State) : State :=
  match s.bus.phase with
  | .polling polls _ => if polls + 1 < Config.pollLimit then s else s.poll false
  | .idle | .reading | .writing => s

/-- A read ends with a missing acknowledge (R48, R53, R57). -/
def State.readNack (s : State) (q : BusRequest) : State :=
  if q.isLoad then s.dequeue.loadFailed q.slot .busNack q.cells else s.dequeue.completeAll q.cells .busNack q.addr []

/-- A write ends with a missing acknowledge before its first data byte (R50, R59). -/
def State.writeNack (s : State) (q : BusRequest) : State := s.dequeue.completeAll q.cells .busNack q.addr [0, 0]

/-- A write ends with a missing acknowledge after data byte k (R50, R59, R60). -/
def State.dataNack (s : State) (q : BusRequest) (k : Nat) : State :=
  let t := s.stopWrite q
  t.1.completeAll q.cells .busNack (q.addr + k) [0, t.2]

/-- ACK_MISSING (R48, R50), where the transaction in flight expects an acknowledge. -/
def State.nack (s : State) (point : AckPoint) : State :=
  match s.running, s.bus.phase, point with
  | some q, .reading, .deviceAddress => s.readNack q
  | some q, .reading, .byteAddress => s.readNack q
  | some q, .reading, .readAddress => s.readNack q
  | some q, .writing, .deviceAddress => s.writeNack q
  | some q, .writing, .byteAddress => s.writeNack q
  | some q, .writing, .dataByte k => if k < q.len then s.dataNack q k else s
  | _, _, _ => s

/-- WRITE_RECOVERY_END (R50): the interval ends, the mtick counter having run on to the instant of its end. -/
def State.recovered (s : State) : State :=
  match s.bus.recovery with
  | some (_, ends) => { s with bus.recovery := none }.advanceTo ends
  | none => s

/-! ### The meanings -/

/-- BUS_REQUEST_START (R51). -/
def execBusRequestStart (s : State) : Host.Outcome State Fault Refusal := finish s s.startRequest

/-- READ_TRANSACTION_END (R48). -/
def execReadTransactionEnd (bytes : List Byte) (s : State) : Host.Outcome State Fault Refusal := finish s (s.endRead bytes)

/-- WRITE_DATA_STOP (R49). -/
def execWriteDataStop (s : State) : Host.Outcome State Fault Refusal := finish s s.dataStop

/-- ACK_POLL (R49). -/
def execAckPoll (acknowledged : Bool) (s : State) : Host.Outcome State Fault Refusal := finish s (s.poll acknowledged)

/-- WRITE_TIMEOUT (R49). -/
def execWriteTimeout (s : State) : Host.Outcome State Fault Refusal := finish s s.pollTimeout

/-- ACK_MISSING (R50). -/
def execAckMissing (point : AckPoint) (s : State) : Host.Outcome State Fault Refusal := finish s (s.nack point)

/-- WRITE_RECOVERY_END (R50). -/
def execWriteRecoveryEnd (s : State) : Host.Outcome State Fault Refusal := finish s s.recovered

end Sys2Proof.Machine
end

