-- ==== Sys2Proof/Machine/BusJobs.lean ====
section
/-! DEFINITION. The adapter bus's jobs: EEPROM_READ (R57), EEPROM_WRITE (R58) and RELOAD (R61). -/

namespace Sys2Proof.Machine

/-- The checks of slot, byte address and length that both EEPROM jobs share in this order (R57, R58), and the slot's
state; `lengthOk` is the job's own length rule. A job that passes goes on as `act`. -/
def eepromChecks (lengthOk : Nat → Nat → Bool) (act : Slot → Job → State → State) (j : Job) (s : State) : State :=
  match Slot.ofNumber (j.word 2) with
  | none => s.complete j.cell .badParam 2 []
  | some i =>
    if 255 < j.word 3 then s.complete j.cell .badParam 3 []
    else if lengthOk (j.word 3) (j.word 4) = false then s.complete j.cell .badParam 4 []
    else if (s.slot i).state = .empty ∨ (s.slot i).state = .loading then s.complete j.cell .noBoard 0 []
    else act i j s

/-- The length rule of EEPROM_READ (R57): 1 to 16 bytes, none beyond byte 255. -/
def readLengthOk (addr len : Nat) : Bool := decide (1 ≤ len) && decide (len ≤ 16) && decide (addr + len ≤ 256)

/-- The length rule of EEPROM_WRITE (R58): 1 to 8 bytes within one 8-byte page. -/
def writeLengthOk (addr len : Nat) : Bool := decide (1 ≤ len) && decide (len ≤ 8) && decide (addr % 8 + len ≤ 8)

/-- An accepted EEPROM_READ is queued (R57). -/
def queueRead (i : Slot) (j : Job) (s : State) : State :=
  s.enqueue { kind := .read, slot := i, addr := j.word 3, len := j.word 4, data := [], cells := [j.cell] }

/-- EEPROM_WRITE after the checks it shares (R58): descriptor bytes need the operator key; an accepted job is queued. -/
def queueWrite (i : Slot) (j : Job) (s : State) : State :=
  if j.word 3 < 32 ∧ s.router.operatorKey = false then s.complete j.cell .protect 0 []
  else
    s.enqueue { kind := .write, slot := i, addr := j.word 3, len := j.word 4, data := j.writeData, cells := [j.cell] }

/-- RELOAD (R61): queued, attached to the slot's standing request, or refused, by the slot's state. -/
def reloadJob (j : Job) (s : State) : State :=
  match Slot.ofNumber (j.word 2) with
  | none => s.complete j.cell .badParam 2 []
  | some i =>
    match (s.slot i).state with
    | .off | .undescribed => s.queueLoad .reload i [j.cell]
    | .loading => { s with bus.queue := s.bus.queue.map (attachCell i j.cell) }
    | .empty => s.complete j.cell .noBoard 0 []
    | .settling | .starting | .running | .onAir | .lost | .cooling | .fault => s.complete j.cell .inUse 0 []

/-- EEPROM_READ (R57). -/
def execEepromRead (s : State) : Host.Outcome State Fault Refusal :=
  finish s (s.takeIf (Job.isKind 8) (eepromChecks readLengthOk queueRead))

/-- EEPROM_WRITE (R58). -/
def execEepromWrite (s : State) : Host.Outcome State Fault Refusal :=
  finish s (s.takeIf (Job.isKind 9) (eepromChecks writeLengthOk queueWrite))

/-- RELOAD (R61). -/
def execReload (s : State) : Host.Outcome State Fault Refusal := finish s (s.takeIf (Job.isKind 10) reloadJob)

end Sys2Proof.Machine
end

