-- ==== Sys2Proof/Machine/CreditEvents.lean ====
section
/-! DEFINITION. The credit unit's events: coin lines, coin pulses and the meter (R159 to R169). -/

namespace Sys2Proof.Machine

/-- COIN_MEASURING_BEGINS (R159): an idle line sampled active measures from width 1. -/
def State.coinBegin (s : State) (l : CoinLine) : State :=
  if s.credit.line l = .idle then { s.sampleCoin l true with credit := s.credit.setLine l (.measuring 1) } else s

/-- COIN_PULSE_END (R159, R160): a measured pulse is judged by its width, and a jam ends. -/
def State.coinEnd (s : State) (l : CoinLine) : State :=
  let t := { s.sampleCoin l false with credit := s.credit.setLine l .idle }
  match s.credit.line l with
  | .idle => s
  | .jammed => t
  | .measuring width => if s.credit.setup.isCoin width then t.coinUnits (s.credit.setup.value l) else t

/-- COIN_JAM (R160): a measuring line jams, and NOTICE bit 12 is set. The command stands for the width having passed the
maximum, and acts whatever width the line holds (assumption 37). -/
def State.coinJammed (s : State) (l : CoinLine) : State :=
  match s.credit.line l with
  | .measuring _ => { (s.sampleCoin l true).setNotice 12 with credit := s.credit.setLine l .jammed }
  | .idle | .jammed => s

/-- COIN_PULSE_START (R166): a slot's generator gives a pulse. -/
def State.pulseStart (s : State) (i : Slot) : State :=
  match s.copy i with
  | some d => if s.coinPulseDue i then { s with credit := s.credit.startPulse i d } else s
  | none => s

/-- A pulse's on time has run out; it rests for its off time (R166, R169). -/
def Pulse.rest : Pulse → Pulse
  | .on _ b => .off b
  | .off left => .off left

/-- A pulse after its off time: none in flight; a pulse still on stays (R166, R169). -/
def Pulse.ended : Pulse → Option Pulse
  | .on left b => some (.on left b)
  | .off _ => none

/-- COIN_PULSE_ON_END (R166). -/
def State.pulseOnEnd (s : State) (i : Slot) : State :=
  { s with credit.pulses := s.credit.pulses.set i ((s.credit.pulses.get i).map Pulse.rest) }

/-- COIN_PULSE_OFF_END (R166). -/
def State.pulseOffEnd (s : State) (i : Slot) : State :=
  { s with credit.pulses := s.credit.pulses.set i ((s.credit.pulses.get i).bind Pulse.ended) }

/-- A meter pulse can start (R169). -/
def Credit.meterDue (c : Credit) : Bool := decide (0 < c.meterPending) && decide (c.meter = none)

/-- METER_PULSE_START (R169): the count falls by 1, and the pulse keeps the times in force. -/
def State.meterStart (s : State) : State :=
  if s.credit.meterDue then
    { s with credit.meterPending := s.credit.meterPending - 1,
             credit.meter := some (.on s.credit.setup.meterOn s.credit.setup.meterOff) }
  else s

/-! ### The meanings -/

/-- COIN_MEASURING_BEGINS (R159). -/
def execCoinMeasuringBegins (line : CoinLine) (s : State) : Host.Outcome State Fault Refusal := finish s (s.coinBegin line)

/-- COIN_PULSE_END (R159). -/
def execCoinPulseEnd (line : CoinLine) (s : State) : Host.Outcome State Fault Refusal := finish s (s.coinEnd line)

/-- COIN_JAM (R160). -/
def execCoinJam (line : CoinLine) (s : State) : Host.Outcome State Fault Refusal := finish s (s.coinJammed line)

/-- COIN_PULSE_START (R166). -/
def execCoinPulseStart (slot : Slot) (s : State) : Host.Outcome State Fault Refusal := finish s (s.pulseStart slot)

/-- COIN_PULSE_ON_END (R166). -/
def execCoinPulseOnEnd (slot : Slot) (s : State) : Host.Outcome State Fault Refusal := finish s (s.pulseOnEnd slot)

/-- COIN_PULSE_OFF_END (R166). -/
def execCoinPulseOffEnd (slot : Slot) (s : State) : Host.Outcome State Fault Refusal := finish s (s.pulseOffEnd slot)

/-- METER_PULSE_START (R169). -/
def execMeterPulseStart (s : State) : Host.Outcome State Fault Refusal := finish s s.meterStart

/-- METER_PULSE_ON_END (R169). -/
def execMeterPulseOnEnd (s : State) : Host.Outcome State Fault Refusal :=
  finish s { s with credit.meter := s.credit.meter.map Pulse.rest }

/-- METER_PULSE_OFF_END (R169). -/
def execMeterPulseOffEnd (s : State) : Host.Outcome State Fault Refusal :=
  finish s { s with credit.meter := s.credit.meter.bind Pulse.ended }

end Sys2Proof.Machine
end

