-- ==== Sys2Proof/Machine/CreditJobs.lean ====
section
/-! DEFINITION. The credit unit's jobs: CREDIT with its four actions (R171 to R173) and SETUP COIN (R164). -/

namespace Sys2Proof.Machine

/-- The check of the action that every CREDIT job passes first (R171). -/
def creditJob (act : Job → State → State) (j : Job) (s : State) : State :=
  if 3 < j.word 2 then s.complete j.cell .badParam 2 [] else act j s

/-- The check of the amount of GRANT, WITHDRAW and DELIVER (R171). -/
def amountJob (act : Job → State → State) (j : Job) (s : State) : State :=
  if j.word 3 < 1 ∨ 9999 < j.word 3 then s.complete j.cell .badParam 3 [] else act j s

/-- GRANT (R171): units enter the bank while it has room. -/
def grantJob (j : Job) (s : State) : State :=
  let n := min (j.word 3) (Config.bankMax - s.credit.bank)
  { s with credit.bank := s.credit.bank + n,
           credit.granted := s.credit.granted + BitVec.ofNat 32 n }.complete j.cell .ok 0 [n, s.credit.bank + n]

/-- WITHDRAW (R171): units leave the bank. -/
def withdrawCredit (j : Job) (s : State) : State :=
  let n := min (j.word 3) s.credit.bank
  { s with credit.bank := s.credit.bank - n,
           credit.withdrawn := s.credit.withdrawn + BitVec.ofNat 32 n }.complete j.cell .ok 0 [n, s.credit.bank - n]

/-- DELIVER (R172): units move from the bank to the slot on air in QUIET. -/
def deliverJob (j : Job) (s : State) : State :=
  match s.ho.onAir with
  | some (.slot i) =>
    if s.ho.phase = .quiet then
      let n := s.movable i (j.word 3)
      (s.moveUnits i (j.word 3)).complete j.cell .ok 0 [n, s.credit.bank - n]
    else s.complete j.cell .notOnAir 0 []
  | some .menu | none => s.complete j.cell .notOnAir 0 []

/-- RECALL (R173): a slot's pending pulses are returned. -/
def recallJob (j : Job) (s : State) : State :=
  match Slot.ofNumber (j.word 4) with
  | none => s.complete j.cell .badParam 4 []
  | some i =>
    let t := { s with credit := s.credit.returnPending i }
    t.complete j.cell .ok 0 [s.credit.pending.get i, t.credit.bank]

/-- The word number of the first coin setup word out of range (R164). -/
def coinFailure (j : Job) : Option Nat :=
  let out (k lo hi : Nat) : Bool := decide (j.word k < lo) || decide (hi < j.word k)
  ([(3, out 3 1 9), (4, out 4 1 9), (5, out 5 5 100), (6, out 6 (j.word 5) 500), (7, out 7 1 9999), (8, out 8 20 255),
    (9, out 9 20 255)].find? fun p => p.2).map Prod.fst

/-- SETUP COIN (R164): the seven values replaced. -/
def coinJob (j : Job) (s : State) : State :=
  match coinFailure j with
  | some k => s.complete j.cell .badParam k []
  | none =>
    { s with credit.setup := ⟨j.word 3, j.word 4, j.word 5, j.word 6, j.word 7, j.word 8, j.word 9⟩ }.complete j.cell .ok 0
      [j.word 3, j.word 4, j.word 5, j.word 6, j.word 7, j.word 8, j.word 9]

/-- CREDIT_GRANT (R171). -/
def execCreditGrant (s : State) : Host.Outcome State Fault Refusal :=
  finish s (s.takeIf (Job.isCredit 0) (creditJob (amountJob grantJob)))

/-- CREDIT_WITHDRAW (R171). -/
def execCreditWithdraw (s : State) : Host.Outcome State Fault Refusal :=
  finish s (s.takeIf (Job.isCredit 1) (creditJob (amountJob withdrawCredit)))

/-- CREDIT_DELIVER (R172). -/
def execCreditDeliver (s : State) : Host.Outcome State Fault Refusal :=
  finish s (s.takeIf (Job.isCredit 2) (creditJob (amountJob deliverJob)))

/-- CREDIT_RECALL (R173). -/
def execCreditRecall (s : State) : Host.Outcome State Fault Refusal :=
  finish s (s.takeIf (Job.isCredit 3) (creditJob recallJob))

/-- SETUP_COIN (R164). -/
def execSetupCoin (s : State) : Host.Outcome State Fault Refusal := finish s (s.takeIf (Job.isSetup 3) coinJob)

end Sys2Proof.Machine
end

