-- ==== Sys2Proof/Machine/PowerJobs.lean ====
section
/-! DEFINITION. The slot manager's jobs: POWER with its five actions (R39 to R44) and SETUP SUPPLY (R37). -/

namespace Sys2Proof.Machine

/-- A POWER job completes with the slot's state code, its mask and the powered draw at completion (R40). -/
def State.completePower (s : State) (c : CellNo) (i : Slot) (r : Result) (detail : Nat) (mask : Word) : State :=
  s.complete c r detail (s.powerData i mask)

/-- The checks every POWER job passes first (R40): the slot, then the action. A job refused for its slot
has no slot whose state word 18 could show: that word is a free value (assumption 13). -/
def powerJob (act : Slot → Job → State → State) (j : Job) (s : State) : State :=
  match Slot.ofNumber (j.word 2) with
  | none => s.complete j.cell .badParam 2 [Config.stateCodeOfNoSlot (j.word 2), 0, s.draw]
  | some i => if 4 < j.word 3 then s.completePower j.cell i .badParam 3 0 else act i j s

/-- The POWER job in flight for the slot, if any, completes SUPERSEDED and leaves the power-up (R44). -/
def State.supersede (s : State) (i : Slot) : State :=
  match (s.slot i).jobCell with
  | some c => (s.completePower c i .superseded 0 0).withdrawJob i
  | none => s

/-- A slot's pending power-up is cancelled, an automatic restart among its requesters dropped (R41). -/
def State.cancelPending (s : State) (i : Slot) : State := s.modSlot i fun r => { r with powerUp := none }

/-- POWER OFF of a slot that is not involved, by its state (R41). -/
def State.offByState (s : State) (i : Slot) (c : CellNo) : State :=
  match (s.slot i).state with
  | .settling | .starting | .running | .onAir | .lost => ((s.supersede i).toCooling i).completePower c i .ok 0 0
  | .cooling | .loading => ((s.supersede i).cancelPending i).completePower c i .ok 0 0
  | .fault => (s.reachOff i).completePower c i .ok 0 0
  | .off | .undescribed => s.completePower c i .ok 0 0
  | .empty => s.completePower c i .noBoard 0 0

/-- POWER OFF (R41): an involved slot is refused first. -/
def State.powerOff (i : Slot) (j : Job) (s : State) : State :=
  if s.involved i then s.completePower j.cell i .inUse 0 0 else s.offByState i j.cell

/-- The answer to a POWER job's power-up request (R42): a granted request waits. -/
def State.answerPower (s : State) (i : Slot) (c : CellNo) (a : Answer) : State :=
  match a with
  | .already => s.completePower c i .ok 0 0
  | .noBoard => s.completePower c i .noBoard 0 0
  | .undescribed => s.completePower c i .undescribed (s.bus.undescribed.get i).detail 0
  | .fault => s.completePower c i .fault 0 0
  | .noBudget draw => s.completePower c i .noBudget draw 0
  | .granted _ => s

/-- A power-up request made by a POWER job (R27, R42). -/
def State.powerRequest (s : State) (i : Slot) (j : Job) : State :=
  let a := s.request i (.job j.cell (j.bit 4 0))
  a.2.answerPower i j.cell a.1

/-- POWER ON (R42): BUSY while another ON or CYCLE is in flight for the slot. -/
def State.powerOn (i : Slot) (j : Job) (s : State) : State :=
  if (s.slot i).jobCell.isSome then s.completePower j.cell i .busy 0 0 else s.powerRequest i j

/-- The slot goes to COOLING, or stays there, with this job among its pending power-up's requesters (R43). Restarts left is
reloaded at the job's acceptance, as R43 and R134 state, for a LOST slot too, of which R130 says that a CYCLE leaves restarts
left unchanged (assumption 41). -/
def State.cycleThrough (s : State) (i : Slot) (j : Job) : State :=
  (s.modSlot i (SlotRec.join (.job j.cell (j.bit 4 0)))).reloadRestarts i

/-- POWER CYCLE of a slot that is not involved, by its state (R43). -/
def State.cycleByState (s : State) (i : Slot) (j : Job) : State :=
  match (s.slot i).state with
  | .settling | .starting | .running | .onAir | .lost => ((s.supersede i).toCooling i).cycleThrough i j
  | .cooling => (s.supersede i).cycleThrough i j
  | .loading =>
    if (s.slot i).powerUp.isSome then (s.supersede i).cycleThrough i j else s.completePower j.cell i .noBoard 0 0
  | .fault => (s.toCooling i).cycleThrough i j
  | .off => s.powerRequest i j
  | .undescribed => s.completePower j.cell i .undescribed (s.bus.undescribed.get i).detail 0
  | .empty => s.completePower j.cell i .noBoard 0 0

/-- POWER CYCLE (R43): an involved slot is refused first. -/
def State.powerCycle (i : Slot) (j : Job) (s : State) : State :=
  if s.involved i then s.completePower j.cell i .inUse 0 0 else s.cycleByState i j

/-- PIN or UNPIN (R39): NO_BOARD for an EMPTY slot, else the flag takes the value asked for. -/
def State.setPin (b : Bool) (i : Slot) (j : Job) (s : State) : State :=
  if (s.slot i).state = .empty then s.completePower j.cell i .noBoard 0 0
  else (s.modSlot i fun r => { r with pinned := b }).completePower j.cell i .ok 0 0

/-- SETUP SUPPLY (R37): the budget takes the value when it is 1 to 120 and not below the powered draw. -/
def supplyJob (j : Job) (s : State) : State :=
  let b := j.word 3
  if b < 1 ∨ Config.budgetMax < b ∨ b < s.draw then s.complete j.cell .badParam s.draw [s.budget]
  else { s.markCabinet with budget := b }.complete j.cell .ok 0 [b, s.draw]

/-- POWER_OFF (R41). -/
def execPowerOff (s : State) : Host.Outcome State Fault Refusal :=
  finish s (s.takeIf (Job.isPower 0) (powerJob State.powerOff))

/-- POWER_ON (R42). -/
def execPowerOn (s : State) : Host.Outcome State Fault Refusal :=
  finish s (s.takeIf (Job.isPower 1) (powerJob State.powerOn))

/-- POWER_CYCLE (R43). -/
def execPowerCycle (s : State) : Host.Outcome State Fault Refusal :=
  finish s (s.takeIf (Job.isPower 2) (powerJob State.powerCycle))

/-- PIN (R39). -/
def execPin (s : State) : Host.Outcome State Fault Refusal :=
  finish s (s.takeIf (Job.isPower 3) (powerJob (State.setPin true)))

/-- UNPIN (R39). -/
def execUnpin (s : State) : Host.Outcome State Fault Refusal :=
  finish s (s.takeIf (Job.isPower 4) (powerJob (State.setPin false)))

/-- SETUP_SUPPLY (R37). -/
def execSetupSupply (s : State) : Host.Outcome State Fault Refusal := finish s (s.takeIf (Job.isSetup 4) supplyJob)

end Sys2Proof.Machine
end

