-- ==== Sys2Proof/Machine/RasterEvents.lean ====
section
/-! DEFINITION. The raster generator's own events: holding lines and frame ends (R84, R86), and the release timer (R106). -/

namespace Sys2Proof.Machine

/-- HOLDING_LINE_START (R84): the next line of the frame begins at the instant the one before ends. -/
def State.startLine (s : State) : State :=
  if s.raster.lineDue then
    { s with raster := s.raster.nextLine }.advanceTo s.raster.nextLine.lineStart
  else s

/-- The target with its record, for the step of a frame end (R86 step 2). -/
def State.stepTarget (s : State) : Option (Source × SyncRec) := s.ho.target.map fun t => (t, s.record t)

/-- What a holding frame end does in the generator (R86 steps 1 to 3), with what it found. -/
def State.frameStep (s : State) : Raster × Finding :=
  s.raster.takeGlide.wrapFrame.step s.ho.phase s.stepTarget s.raster.frameEndAt

/-- HOLDING_FRAME_END (R86): the step, the mark of a changed raster, then the announcement to the controller (R110). -/
def State.endFrame (s : State) : State :=
  if s.raster.mode = .hold then
    (({ s with raster := s.frameStep.1 }.advanceTo s.raster.frameEndAt).countFrame).onFinding s.frameStep.2
  else s

/-- RELEASE_TIMER_EXPIRY (R106): an immediate start of HOLD as a release. -/
def State.releaseTimeout (s : State) : State := if s.ho.phase = .release then s.holdNow.releaseHandled else s

/-- HOLDING_LINE_START (R84). -/
def execHoldingLineStart (s : State) : Host.Outcome State Fault Refusal := finish s s.startLine

/-- HOLDING_FRAME_END (R86). -/
def execHoldingFrameEnd (s : State) : Host.Outcome State Fault Refusal := finish s s.endFrame

/-- RELEASE_TIMER_EXPIRY (R106). -/
def execReleaseTimerExpiry (s : State) : Host.Outcome State Fault Refusal := finish s s.releaseTimeout

end Sys2Proof.Machine
end

