-- ==== Sys2Proof/Machine/RouterJobs.lean ====
section
/-! DEFINITION. The control router's jobs: LOAD_MAP (R145 to R148) and SETUP CHORD (R155). -/

namespace Sys2Proof.Machine

/-- The pin count of a slot's descriptor copy (R146). -/
def State.pinCount (s : State) (i : Slot) : Nat :=
  match s.copy i with
  | some d => d.pinCount
  | none => 0

/-- A LOAD_MAP completes OK with the entry count and the label (R147). -/
def State.completeMap (s : State) (c : CellNo) (m : ControlMap) : State :=
  s.complete c .ok 0 [m.entries.length, m.label.toNat]

/-- The LOAD_MAP whose map is pending completes SUPERSEDED (R148). -/
def State.supersedeMap (s : State) (i : Slot) : State :=
  match s.router.pendingMaps.get i with
  | some p => s.complete p.2 .superseded 0 []
  | none => s

/-- A validated map replaces the slot's map at the take, or becomes its pending map when the slot is on air or holds a
pending map already (R147, R148); a replacement marks the source page (R147). -/
def State.acceptMap (s : State) (i : Slot) (c : CellNo) (m : ControlMap) : State :=
  if s.ho.onAir = some (.slot i) ∨ (s.router.pendingMaps.get i).isSome = true then
    { s.supersedeMap i with router.pendingMaps := s.router.pendingMaps.set i (some (m, c)) }
  else ({ s with router := s.router.installMap i m }.markSource (.slot i)).completeMap c m

/-- A LOAD_MAP for an admitted slot: the staged map is judged (R146). -/
def State.judgeMap (s : State) (i : Slot) (c : CellNo) : State :=
  match s.stagedMap i (s.pinCount i) with
  | .inl detail => s.complete c .badMap detail []
  | .inr m => s.acceptMap i c m

/-- LOAD_MAP (R145): treated by the slot's state. -/
def loadMapJob (j : Job) (s : State) : State :=
  match Slot.ofNumber (j.word 2) with
  | none => s.complete j.cell .badParam 2 []
  | some i =>
    match (s.slot i).state with
    | .empty | .loading => s.complete j.cell .noBoard 0 []
    | .undescribed => s.complete j.cell .undescribed (s.bus.undescribed.get i).detail []
    | .off | .settling | .starting | .running | .onAir | .lost | .cooling | .fault => s.judgeMap i j.cell

/-- How many inputs a mask sets. -/
def maskCount (m : BitVec 32) : Nat := ((List.range 32).filter fun n => m.getLsbD n).length

/-- SETUP CHORD (R155): the mask, the hold time and the action are checked in that order and replaced. -/
def chordJob (j : Job) (s : State) : State :=
  let mask := BitVec.ofNat 32 (j.word 3 + 65536 * j.word 4)
  if maskCount mask < 1 ∨ 4 < maskCount mask then s.complete j.cell .badParam 3 []
  else if j.word 5 < 5 ∨ 50 < j.word 5 then s.complete j.cell .badParam 5 []
  else if 1 < j.word 6 then s.complete j.cell .badParam 6 []
  else
    { s with router.chordMask := mask, router.chordHold := j.word 5, router.chordReturn := decide (j.word 6 = 1),
             router.chordTimer := 0 }.complete j.cell .ok 0 [j.word 3, j.word 4, j.word 5, j.word 6]

/-- LOAD_MAP (R145). -/
def execLoadMap (s : State) : Host.Outcome State Fault Refusal := finish s (s.takeIf (Job.isKind 4) loadMapJob)

/-- SETUP_CHORD (R155). -/
def execSetupChord (s : State) : Host.Outcome State Fault Refusal := finish s (s.takeIf (Job.isSetup 2) chordJob)

end Sys2Proof.Machine
end

