-- ==== Sys2Proof/Machine/RouterEvents.lean ====
section
/-! DEFINITION. The control router's events: debounced lines, map installation, entry phases, the exit chord (R142 to R157). -/

namespace Sys2Proof.Machine

/-- The router's pins computed as at the scan of an event (R150). -/
def State.drivePins (s : State) : State := { s with router := s.router.drive }

/-- The scan of the latest ms tick has yet to recompute the pins, which is the last that the router does in it (R142). -/
def State.pinsToCome (s : State) : Bool := decide (1 ≤ s.scan) && decide (s.scan ≤ 6)

/-- The pins after an event of the router: left to the scan in progress, which computes them once, after every event of its
own (R142); an event outside a scan is a scan's only one, and they are computed for it (R150; assumption 40). -/
def State.settlePins (s : State) : State := if s.pinsToCome then s else s.drivePins

/-- An activation handed on (R143): an input to the entries, the service line to the credit unit. -/
def State.activated (s : State) (l : Line) : State :=
  match l with
  | .input i => { s with router := s.router.updateEntries fun _ => MapEntry.activate i.val }
  | .service => s.serviceUnit
  | .operatorKey => s

/-- LINE_ACTIVATION (R142): a line that was debounced inactive becomes active. -/
def State.lineOn (s : State) (l : Line) : State :=
  if s.router.lineActive l then s
  else
    ({ s with router := s.router.acceptLine l true, pins := s.pins.setLine l true }.activated l).settlePins

/-- A release handed on to the entries (R154). -/
def Router.released (l : Line) (r : Router) : Router :=
  match l with
  | .input i => r.updateEntries fun _ => MapEntry.release i.val
  | .service => r
  | .operatorKey => r

/-- The scan of the latest ms tick has yet to advance the chord, which it does once every line has settled (R142). -/
def State.chordToCome (s : State) : Bool := decide (1 ≤ s.scan) && decide (s.scan ≤ 5)

/-- The chord finds the mask at the scan of a release (R156, R157): at once where the release is the scan's only change, and
at the scan's own place for it while other lines may still be settling (assumption 40). -/
def State.advanceReleased (s : State) (r : Router) : Router := if s.chordToCome then r else r.chordReleases

/-- LINE_RELEASE (R142): a line that was debounced active becomes inactive. -/
def State.lineOff (s : State) (l : Line) : State :=
  if s.router.lineActive l then
    { s with router := s.advanceReleased ((s.router.acceptLine l false).released l),
             pins := s.pins.setLine l false }.settlePins
  else s

/-- MAP_INSTALL (R147): a pending map replaces the slot's map, and its job completes OK. -/
def State.installPending (s : State) (i : Slot) : State :=
  match s.router.pendingMaps.get i with
  | none => s
  | some p =>
    (({ s with router := { s.router with pendingMaps := s.router.pendingMaps.set i none }.installMap i p.1 }.markSource
      (.slot i)).completeMap p.2 p.1).settlePins

/-- The phase of entry `k` of the driven slot's map for input `m` changed by `f`. -/
def Router.stepPhase (k m : Nat) (f : MapEntry → EntryPhase → EntryPhase) (r : Router) : Router :=
  r.updateEntries fun k' e m' x => if k' = k ∧ m' = m then { x with phase := f e x.phase } else x

/-- An entry's phase has run out: it changes by `f`, and the pins are computed anew at that scan (R142). Nothing happens where no
such phase is running (assumption 5). -/
def State.stepEntry (s : State) (k m : Nat) (f : MapEntry → EntryPhase → EntryPhase) : State :=
  if (s.router.stepPhase k m f).entries = s.router.entries then s
  else { s with router := s.router.stepPhase k m f }.settlePins

/-- A pulse has run out (R152). -/
def EntryPhase.pulseEnd (_ : MapEntry) : EntryPhase → EntryPhase
  | .pulsing _ => .idle
  | .idle => .idle
  | .on left => .on left
  | .off left => .off left

/-- The off time of an autofire entry begins (R153). -/
def EntryPhase.onEnd (e : MapEntry) : EntryPhase → EntryPhase
  | .on left =>
    match e.mode with
    | .autofire _ b => .off b
    | .direct | .invert | .pulse _ => .on left
  | .idle => .idle
  | .pulsing left => .pulsing left
  | .off left => .off left

/-- The on time of an autofire entry begins again (R153). -/
def EntryPhase.offEnd (e : MapEntry) : EntryPhase → EntryPhase
  | .off left =>
    match e.mode with
    | .autofire a _ => .on a
    | .direct | .invert | .pulse _ => .off left
  | .idle => .idle
  | .pulsing left => .pulsing left
  | .on left => .on left

/-- The exit chord is detected (R156, R157): NOTICE bit 10, the latch, the freeze, the timer at 0. -/
def State.chordDetected (s : State) : State :=
  { s.setNotice 10 with router := { s.router with chordLatch := true, chordTimer := 0 }.freeze }.markCabinet

/-- EXIT_CHORD (R156, R122): with the action RETURN the chord is handed to the controller. -/
def State.exitChord (s : State) : State :=
  match s.ho.onAir with
  | some (.slot i) =>
    if s.chordRuns && s.router.chordHeld then
      (if s.router.chordReturn then s.chordDetected.chordFallback i else s.chordDetected)
    else s
  | some .menu | none => s

/-! ### The meanings -/

/-- LINE_ACTIVATION (R142). -/
def execLineActivation (line : Line) (s : State) : Host.Outcome State Fault Refusal := finish s (s.lineOn line)

/-- LINE_RELEASE (R142). -/
def execLineRelease (line : Line) (s : State) : Host.Outcome State Fault Refusal := finish s (s.lineOff line)

/-- MAP_INSTALL (R147). -/
def execMapInstall (slot : Slot) (s : State) : Host.Outcome State Fault Refusal := finish s (s.installPending slot)

/-- PULSE_ENTRY_END (R152). -/
def execPulseEntryEnd (entry : Nat) (input : Fin 32) (s : State) : Host.Outcome State Fault Refusal :=
  finish s (s.stepEntry entry input.val EntryPhase.pulseEnd)

/-- AUTOFIRE_ON_END (R153). -/
def execAutofireOnEnd (entry : Nat) (input : Fin 32) (s : State) : Host.Outcome State Fault Refusal :=
  finish s (s.stepEntry entry input.val EntryPhase.onEnd)

/-- AUTOFIRE_OFF_END (R153). -/
def execAutofireOffEnd (entry : Nat) (input : Fin 32) (s : State) : Host.Outcome State Fault Refusal :=
  finish s (s.stepEntry entry input.val EntryPhase.offEnd)

/-- EXIT_CHORD (R156). -/
def execExitChord (s : State) : Host.Outcome State Fault Refusal := finish s s.exitChord

end Sys2Proof.Machine
end

