-- ==== Sys2Proof/Machine/SetupJobs.lean ====
section
/-! DEFINITION. SET_LEVELS (R182) and the raster generator's jobs, SETUP MONITOR (R98) and SETUP GLIDE (R99). -/

namespace Sys2Proof.Machine

/-- A level's value limited to its greatest. -/
def clampLevel (item value : Nat) : Nat := if item = 3 then min value 64 else min value 255

/-- The setting of an item replaced (R182): master, a source's ratio, floor, ramp. -/
def State.setItem (s : State) (item : Nat) (src : Source) (v : Nat) : State :=
  if item = 0 then { s with audio.master := v }
  else if item = 1 then { s with audio.ratios := s.audio.ratios.set src v }
  else if item = 2 then { s with audio.floor := v }
  else { s with audio.ramp := v }

/-- Whether a SET_LEVELS recomputes the target or moves the level at once (R178, R179): the master, the floor, the ratio
of the on-air source, or a ramp of 0 while the levels differ. -/
def State.levelsMove (s : State) (item : Nat) (src : Source) (v : Nat) : Bool :=
  if item = 1 then decide (s.audio.wanted = some src)
  else if item = 3 then decide (v = 0) && decide (s.audio.current ≠ s.audio.target)
  else true

/-- SET_LEVELS with its item and source checked (R182): the job completes before the level is announced. -/
def State.setLevel (s : State) (c : CellNo) (item : Nat) (src : Source) (value : Nat) : State :=
  let v := clampLevel item value
  let moves := s.levelsMove item src v
  let t := if moves then (s.setItem item src v).recomputeAudio else s.setItem item src v
  let u := t.complete c .ok 0 [v, flag (decide (v ≠ value)), t.audio.target, t.audio.current]
  if moves then u.levelReached else u

/-- SET_LEVELS (R182). -/
def levelsJob (j : Job) (s : State) : State :=
  if 3 < j.word 2 then s.complete j.cell .badParam 2 []
  else
    match Source.ofNumber (j.word 3) with
    | some src => s.setLevel j.cell (j.word 2) src (j.word 4)
    | none => if j.word 2 = 1 then s.complete j.cell .badParam 3 [] else s.setLevel j.cell (j.word 2) .menu (j.word 4)

/-- A value outside a range. -/
def outOf (lo hi v : Nat) : Bool := decide (v < lo) || decide (hi < v)

/-- Whether the on-air source's last stable P lies outside lo to hi (R98). -/
def State.onAirOutside (s : State) (lo hi : Nat) : Bool :=
  match s.ho.onAir with
  | some src => outOf lo hi (s.record src).lastP
  | none => false

/-- The first failing check of SETUP MONITOR (R98): its result and detail. -/
def State.monitorFailure (s : State) (j : Job) : Option (Result × Nat) :=
  let pMin := j.word 3
  let pMax := j.word 4
  let pRest := j.word 5
  if outOf 8192 32752 pMin then some (.badParam, 3)
  else if outOf 8192 32752 pMax then some (.badParam, 4)
  else if outOf 8192 32752 pRest then some (.badParam, 5)
  else if outOf 200 700 (j.word 6) then some (.badParam, 6)
  else if ¬ (pMin ≤ pRest ∧ pRest ≤ pMax) then some (.badParam, 5)
  else if s.ho.phase ≠ .quiet then some (.inUse, 1)
  else if s.onAirOutside pMin pMax then some (.inUse, 2)
  else if s.raster.mode = .hold ∧ outOf pMin pMax s.raster.p = true then some (.inUse, 3)
  else none

/-- SETUP MONITOR (R98): the monitor window and the rest raster replaced, source page 0 marked. -/
def monitorJob (j : Job) (s : State) : State :=
  match s.monitorFailure j with
  | some f => s.complete j.cell f.1 f.2 []
  | none =>
    { s.markSource .menu with raster.pMin := j.word 3, raster.pMax := j.word 4, raster.pRest := j.word 5,
                              raster.lRest := j.word 6 }.complete j.cell .ok 0
      [j.word 3, j.word 4, j.word 5, j.word 6]

/-- The first word of SETUP GLIDE out of range (R99). -/
def glideFailure (j : Job) : Option Nat :=
  ([(3, outOf 1 4096 (j.word 3)), (4, outOf 1 64 (j.word 4)), (5, outOf 1 16 (j.word 5)),
    (6, outOf 10 1000 (j.word 6))].find? fun p => p.2).map Prod.fst

/-- Glide values taken at once in PASS, and held pending in HOLD; either way they replace values still pending (R99). -/
def Raster.setGlide (g : Glide) (r : Raster) : Raster :=
  match r.mode with
  | .pass => { r with glide := g, pendingGlide := none }
  | .hold => { r with pendingGlide := some g }

/-- SETUP GLIDE (R99). -/
def glideJob (j : Job) (s : State) : State :=
  match glideFailure j with
  | some k => s.complete j.cell .badParam k []
  | none =>
    { s with raster := s.raster.setGlide ⟨j.word 3, j.word 4, j.word 5, j.word 6⟩ }.complete j.cell .ok 0
      [j.word 3, j.word 4, j.word 5, j.word 6]

/-- SET_LEVELS (R182). -/
def execSetLevels (s : State) : Host.Outcome State Fault Refusal := finish s (s.takeIf (Job.isKind 6) levelsJob)

/-- SETUP_MONITOR (R98). -/
def execSetupMonitor (s : State) : Host.Outcome State Fault Refusal := finish s (s.takeIf (Job.isSetup 0) monitorJob)

/-- SETUP_GLIDE (R99). -/
def execSetupGlide (s : State) : Host.Outcome State Fault Refusal := finish s (s.takeIf (Job.isSetup 1) glideJob)

end Sys2Proof.Machine
end

