-- ==== Sys2Proof/Machine/SwitchJobs.lean ====
section
/-! DEFINITION. The jobs completed at the take by the intake itself (R9), and the hand-over controller's own: SWITCH
(R102, R103) and ABORT (R117, R118). -/

namespace Sys2Proof.Machine

/-- An unknown kind completes with word 0 as detail (R9). -/
def unknownJob (j : Job) (s : State) : State := s.complete j.cell .unknownKind (j.word 0) []

/-- A SETUP group above 4 (R9). -/
def badGroupJob (j : Job) (s : State) : State := s.complete j.cell .badParam 2 []

/-- A SWITCH (R102): a target outside 0 to 8 is refused, any other is treated by the phase. -/
def switchJob (j : Job) (s : State) : State :=
  match Source.ofNumber (j.word 2) with
  | none => s.complete j.cell .badParam 2 []
  | some target => s.takeSwitch (j.toSwitch target)

/-- The waiting job, if any, completes ABORTED with words 18 to 21 at 0 (R117, R126). -/
def State.abortWaiting (s : State) : State :=
  match s.ho.waiting with
  | some w => { s.complete w.cell .aborted 0 [] with ho.waiting := none }
  | none => s

/-- An ABORT treated by the phase (R117). -/
def abortJob (j : Job) (s : State) : State :=
  match s.ho.phase with
  | .quiet | .prepare => s.complete j.cell .nothingToAbort 0 []
  | .fadeOut | .release =>
    ((s.completeActive .aborted 0 s.switchData).cancel).complete j.cell .ok (sourceField s.ho.outgoing) []
  | .waitTarget | .glide | .align =>
    let t := (s.completeActive .aborted 0 s.switchData).chooseAnew
    t.complete j.cell .ok (sourceField t.ho.target) []
  | .fadeIn => s.abortWaiting.complete j.cell .tooLate 0 []

/-- UNKNOWN_KIND (R9). -/
def execUnknownKind (s : State) : Host.Outcome State Fault Refusal := finish s (s.takeIf Job.isUnknown unknownJob)

/-- SETUP_BAD_GROUP (R9). -/
def execSetupBadGroup (s : State) : Host.Outcome State Fault Refusal := finish s (s.takeIf Job.isBadGroup badGroupJob)

/-- SWITCH (R102). -/
def execSwitch (s : State) : Host.Outcome State Fault Refusal := finish s (s.takeIf (Job.isKind 1) switchJob)

/-- ABORT (R117). -/
def execAbort (s : State) : Host.Outcome State Fault Refusal := finish s (s.takeIf (Job.isKind 2) abortJob)

end Sys2Proof.Machine
end

