-- ==== Sys2Proof/Machine/SyncEvents.lean ====
section
/-! DEFINITION. The sync measurement unit's events and what they do to the other blocks: signals to the slot manager and
the hand-over controller, announcements to the raster generator (R68 to R80, R87, R88, R96). -/

namespace Sys2Proof.Machine

/-- The slot manager and the liveness watch at an event of a source (R31, R129, R130). -/
def State.slotEvent (s : State) (src : Source) (e : SyncEvent) : State :=
  match src, e with
  | .slot i, .stable => s.slotStable i
  | .slot i, .unstable => s.enterLost i
  | .slot i, .noSync => s.enterLost i
  | .menu, _ => s

/-- The hand-over controller at an event of a source (R107, R108, R111, R135). -/
def State.controllerEvent (s : State) (src : Source) (e : SyncEvent) : State :=
  match e with
  | .stable => if s.ho.target = some src then s.judge else s
  | .unstable => s.controllerLoses src false
  | .noSync => s.controllerLoses src true

/-- An event is signalled (R79, R80): the page is marked, the slot manager acts, then the controller (assumption 1). -/
def State.signal (s : State) (src : Source) (e : SyncEvent) : State :=
  ((s.markSource src).slotEvent src e).controllerEvent src e

/-- An event is signalled, or none. -/
def State.signalIf (s : State) (src : Source) (e : Option SyncEvent) : State :=
  match e with
  | some e => s.signal src e
  | none => s

/-- The generator releases at the edge stamped `t` (R88), and the controller handles the release (R106). -/
def State.releaseAt (s : State) (t : Stamp) : State := { s with raster := s.raster.startHold t }.releaseHandled

/-- The generator cuts to the target (R96), and the controller handles the cut (R112). -/
def State.cutTo (s : State) (src : Source) (rough : Bool) : State :=
  { s with raster := s.raster.cut src (s.record src) }.cutHandled src rough

/-- A vsync leading edge is announced to the raster generator (R79): the pass timing, then a held release order, or the
cut. -/
def State.announce (s : State) (src : Source) (t : Stamp) : State :=
  let u := { s with raster := s.raster.notePass src (s.record src) }
  if u.raster.mode = .pass ∧ u.raster.releaseOrder = some src then u.releaseAt t
  else
    match u.raster.cutsAt src (u.record src) t with
    | some arm => u.cutTo src arm.rough
    | none => u

/-- HSYNC_LEADING_EDGE (R69). -/
def State.hsyncAt (s : State) (src : Source) (t : Stamp) : State :=
  (s.advanceTo t).setRecord src ((s.record src).hsyncEdge (s.windowLow src) t)

/-- A vertical pulse handled by a record (R70, R71, R77), the page marked for an agreeing frame that moved (R80). -/
def State.vsyncRecord (s : State) (src : Source) (o : VsyncOutcome) : State :=
  let t := s.setRecord src o.record
  if o.agreed && o.record.movedFromShown then t.markSource src else t

/-- An edge of source 0's vertical input, known at once, finds a leading edge of the same stamp on its horizontal input
taken before it, since that edge belongs to the frame that ends (R71): one that still waits in the queue is taken now,
and is not counted again when its turn comes (assumption 39). -/
def State.takeCoincident (s : State) (src : Source) (input : SyncInput) (t : Stamp) : State :=
  match input with
  | .vertical => if .hsyncLeadingEdge src t ∈ s.pending then s.hsyncAt src t else s
  | .horizontal => s

/-- A vsync leading edge taken from source 0's vertical input is kept in mind (R70; assumption 11). -/
def State.noteVertical (s : State) (src : Source) (input : SyncInput) (t : Stamp) : State :=
  match src, input with
  | .menu, .vertical =>
    if (s.record .menu).merges (s.windowLow .menu) t then s else { s with sync.verticalEdge := some t }
  | _, _ => s

/-- Whether a vertical pulse at `t` on source 0's composite input belongs to the vertical interval of an edge of its vertical
input with a later stamp (R70): the pulse is known a quarter of a line after it arrives, the edge at once, so that the edge
may have been taken first; the two inputs merge all the same (assumption 11). -/
def State.passedOver (s : State) (src : Source) (input : SyncInput) (t : Stamp) : Bool :=
  match src, input, s.sync.verticalEdge with
  | .menu, .horizontal, some e => decide (ticksFrom t e * 2 < (s.record .menu).separation (s.windowLow .menu))
  | _, _, _ => false

/-- The counter at the recognition of a vertical pulse (R70). -/
def State.recognise (s : State) (src : Source) (input : SyncInput) (t : Stamp) : State :=
  s.advanceTo ((s.record src).recognisedAt (s.windowLow src) input t)

/-- A vertical pulse recognised as a vsync leading edge (R70, R79): the record's fields, the event, the announcement, in
that order. -/
def State.vsyncTaken (s : State) (src : Source) (input : SyncInput) (t : Stamp) : State :=
  let r := s.record src
  let o := r.vsyncEdge (s.windowLow src) (s.windowHigh src) t
  let u := ((((s.noteVertical src input t).recognise src input t).vsyncRecord src o).signalIf src o.event)
  if o.announced then u.announce src t else u

/-- VSYNC_LEADING_EDGE (R70): a pulse that is no vertical pulse, having lasted a quarter of S or less, is none, and one passed
over changes nothing but the counter. -/
def State.vsyncAt (s : State) (src : Source) (input : SyncInput) (pulse : SyncPulse) : State :=
  if src.hasInput input && (s.record src).isVertical (s.windowLow src) input pulse.width then
    (if s.passedOver src input pulse.stamp then s.recognise src input pulse.stamp
      else (s.takeCoincident src input pulse.stamp).vsyncTaken src input pulse.stamp)
  else s

/-- The times an input stood high and low, after a change of its polarity: where they would confirm the polarity it had
before, the input is taken to stand at the idle level of the new one (assumption 3). -/
def settledHigh (positive : Bool) (high : Nat) : Nat :=
  if confirmsChange positive high then (if positive then 0 else Config.mticksPerMs) else high

/-- A sync input's times follow its change of polarity. -/
def Pins.followPolarity (p : Pins) (src : Source) (input : SyncInput) (r : SyncRec) : Pins :=
  match input with
  | .horizontal =>
    { p with highHorizontal := p.highHorizontal.set src (settledHigh r.horizontalPositive (p.highHorizontal.get src)) }
  | .vertical => { p with highVertical := settledHigh r.verticalPositive p.highVertical }

/-- POLARITY_CHANGE (R68): UNSTABLE is signalled when the stable flag was set. -/
def State.polarityAt (s : State) (src : Source) (input : SyncInput) : State :=
  if src.hasInput input then
    let r := s.record src
    let n := r.changePolarity input
    let t := { s.setRecord src n with pins := s.pins.followPolarity src input n }
    t.signalIf src (stabilityEvent r.stable n.stable)
  else s

/-- A loss of sync of a LIVE record (R76): the record first, then NO_SYNC. The command stands for the loss itself: it acts
whatever mticks have passed, and leaves the counter where it stands (assumptions 8 and 9). -/
def State.lossOf (s : State) (src : Source) : State :=
  if (s.record src).condition = .live then (s.setRecord src (s.record src).loseSync).signal src .noSync else s

/-! ### The meanings -/

/-- HSYNC_LEADING_EDGE (R69). -/
def execHsyncLeadingEdge (src : Source) (stamp : Stamp) (s : State) : Host.Outcome State Fault Refusal :=
  finish s (s.hsyncAt src stamp)

/-- VSYNC_LEADING_EDGE (R70). -/
def execVsyncLeadingEdge (src : Source) (input : SyncInput) (pulse : SyncPulse) (s : State) :
    Host.Outcome State Fault Refusal :=
  finish s (s.vsyncAt src input pulse)

/-- POLARITY_CHANGE (R68). -/
def execPolarityChange (src : Source) (input : SyncInput) (s : State) : Host.Outcome State Fault Refusal :=
  finish s (s.polarityAt src input)

/-- HSYNC_LOSS (R76). -/
def execHsyncLoss (src : Source) (s : State) : Host.Outcome State Fault Refusal := finish s (s.lossOf src)

/-- VSYNC_LOSS (R76). -/
def execVsyncLoss (src : Source) (s : State) : Host.Outcome State Fault Refusal := finish s (s.lossOf src)

end Sys2Proof.Machine
end

