-- ==== Sys2Proof/Machine/Dispatch.lean ====
section
/-! DEFINITION. One arm per command, each a direct call of the command's meaning. -/

namespace Sys2Proof.Machine

/-- A command's effect on everything but the queue. -/
def exec (i : Instr) (s : State) : Host.Outcome State Fault Refusal :=
  match i with
  | .windowWrite addr value => Sys2Proof.Machine.execWindowWrite addr value s
  | .post value => Sys2Proof.Machine.execPost value s
  | .done value => Sys2Proof.Machine.execDone value s
  | .notice value => Sys2Proof.Machine.execNotice value s
  | .noticeMask value => Sys2Proof.Machine.execNoticeMask value s
  | .writeNoEffect reg value => Sys2Proof.Machine.execWriteNoEffect reg value s
  | .softRestart value => Sys2Proof.Machine.execSoftRestart value s
  | .softRestartEnd dataByteSent => Sys2Proof.Machine.execSoftRestartEnd dataByteSent s
  | .powerOnReset => Sys2Proof.Machine.execPowerOnReset s
  | .unknownKind => Sys2Proof.Machine.execUnknownKind s
  | .switch => Sys2Proof.Machine.execSwitch s
  | .abort => Sys2Proof.Machine.execAbort s
  | .powerOff => Sys2Proof.Machine.execPowerOff s
  | .powerOn => Sys2Proof.Machine.execPowerOn s
  | .powerCycle => Sys2Proof.Machine.execPowerCycle s
  | .pin => Sys2Proof.Machine.execPin s
  | .unpin => Sys2Proof.Machine.execUnpin s
  | .loadMap => Sys2Proof.Machine.execLoadMap s
  | .creditGrant => Sys2Proof.Machine.execCreditGrant s
  | .creditWithdraw => Sys2Proof.Machine.execCreditWithdraw s
  | .creditDeliver => Sys2Proof.Machine.execCreditDeliver s
  | .creditRecall => Sys2Proof.Machine.execCreditRecall s
  | .setLevels => Sys2Proof.Machine.execSetLevels s
  | .setupMonitor => Sys2Proof.Machine.execSetupMonitor s
  | .setupGlide => Sys2Proof.Machine.execSetupGlide s
  | .setupChord => Sys2Proof.Machine.execSetupChord s
  | .setupCoin => Sys2Proof.Machine.execSetupCoin s
  | .setupSupply => Sys2Proof.Machine.execSetupSupply s
  | .eepromRead => Sys2Proof.Machine.execEepromRead s
  | .eepromWrite => Sys2Proof.Machine.execEepromWrite s
  | .reload => Sys2Proof.Machine.execReload s
  | .pageUpdateStart page => Sys2Proof.Machine.execPageUpdateStart page s
  | .pageUpdateEnd page => Sys2Proof.Machine.execPageUpdateEnd page s
  | .presenceDetected slot => Sys2Proof.Machine.execPresenceDetected slot s
  | .removal slot => Sys2Proof.Machine.execRemoval slot s
  | .overcurrent slot => Sys2Proof.Machine.execOvercurrent slot s
  | .settleTimerExpiry slot => Sys2Proof.Machine.execSettleTimerExpiry slot s
  | .startTimerExpiry slot => Sys2Proof.Machine.execStartTimerExpiry slot s
  | .graceTimerExpiry slot => Sys2Proof.Machine.execGraceTimerExpiry slot s
  | .coolTimerExpiry slot => Sys2Proof.Machine.execCoolTimerExpiry slot s
  | .busRequestStart => Sys2Proof.Machine.execBusRequestStart s
  | .readTransactionEnd bytes => Sys2Proof.Machine.execReadTransactionEnd bytes s
  | .writeDataStop => Sys2Proof.Machine.execWriteDataStop s
  | .ackPoll acknowledged => Sys2Proof.Machine.execAckPoll acknowledged s
  | .writeTimeout => Sys2Proof.Machine.execWriteTimeout s
  | .ackMissing point => Sys2Proof.Machine.execAckMissing point s
  | .writeRecoveryEnd => Sys2Proof.Machine.execWriteRecoveryEnd s
  | .hsyncLeadingEdge src stamp => Sys2Proof.Machine.execHsyncLeadingEdge src stamp s
  | .vsyncLeadingEdge src input pulse => Sys2Proof.Machine.execVsyncLeadingEdge src input pulse s
  | .polarityChange src input => Sys2Proof.Machine.execPolarityChange src input s
  | .hsyncLoss src => Sys2Proof.Machine.execHsyncLoss src s
  | .vsyncLoss src => Sys2Proof.Machine.execVsyncLoss src s
  | .holdingLineStart => Sys2Proof.Machine.execHoldingLineStart s
  | .holdingFrameEnd => Sys2Proof.Machine.execHoldingFrameEnd s
  | .releaseTimerExpiry => Sys2Proof.Machine.execReleaseTimerExpiry s
  | .lineActivation line => Sys2Proof.Machine.execLineActivation line s
  | .lineRelease line => Sys2Proof.Machine.execLineRelease line s
  | .mapInstall slot => Sys2Proof.Machine.execMapInstall slot s
  | .pulseEntryEnd entry input => Sys2Proof.Machine.execPulseEntryEnd entry input s
  | .autofireOnEnd entry input => Sys2Proof.Machine.execAutofireOnEnd entry input s
  | .autofireOffEnd entry input => Sys2Proof.Machine.execAutofireOffEnd entry input s
  | .exitChord => Sys2Proof.Machine.execExitChord s
  | .coinPulseEnd line => Sys2Proof.Machine.execCoinPulseEnd line s
  | .coinJam line => Sys2Proof.Machine.execCoinJam line s
  | .coinPulseStart slot => Sys2Proof.Machine.execCoinPulseStart slot s
  | .coinPulseOnEnd slot => Sys2Proof.Machine.execCoinPulseOnEnd slot s
  | .meterPulseStart => Sys2Proof.Machine.execMeterPulseStart s
  | .meterPulseOnEnd => Sys2Proof.Machine.execMeterPulseOnEnd s
  | .rampStep => Sys2Proof.Machine.execRampStep s
  | .coinMeasuringBegins line => Sys2Proof.Machine.execCoinMeasuringBegins line s
  | .coinPulseOffEnd slot => Sys2Proof.Machine.execCoinPulseOffEnd slot s
  | .meterPulseOffEnd => Sys2Proof.Machine.execMeterPulseOffEnd s
  | .setupBadGroup => Sys2Proof.Machine.execSetupBadGroup s

end Sys2Proof.Machine
end

