-- ==== Sys2Proof/Machine/Tick.lean ====
section
/-! DEFINITION. What the part does by itself when no command waits: events that are due at once, and the ms tick with its
scan in the spec's order (R142, chapter 9). The tick has no row in the opcode table, so it has no constructor; it counts,
and puts the commands that have become due into the queue (assumption 2). -/

namespace Sys2Proof.Machine

/-! ### Events due at once -/

/-- The take row of a job at the head of the intake list (R9). -/
def Job.takeCommand (j : Job) : Instr :=
  match j.word 0 with
  | 1 => .switch
  | 2 => .abort
  | 3 =>
    match j.word 3 with
    | 1 => .powerOn
    | 2 => .powerCycle
    | 3 => .pin
    | 4 => .unpin
    | _ => .powerOff
  | 4 => .loadMap
  | 5 =>
    match j.word 2 with
    | 1 => .creditWithdraw
    | 2 => .creditDeliver
    | 3 => .creditRecall
    | _ => .creditGrant
  | 6 => .setLevels
  | 7 =>
    match j.word 2 with
    | 0 => .setupMonitor
    | 1 => .setupGlide
    | 2 => .setupChord
    | 3 => .setupCoin
    | 4 => .setupSupply
    | _ => .setupBadGroup
  | 8 => .eepromRead
  | 9 => .eepromWrite
  | 10 => .reload
  | _ => .unknownKind

/-- Whether `limit` mticks have passed since `t` (R76). -/
def State.passed (s : State) (t : Stamp) (limit : Nat) : Bool :=
  reached t s.sync.mtick && decide (limit ≤ ticksFrom t s.sync.mtick)

/-- The loss of sync that is due for a source (R76). -/
def State.dueLoss (s : State) (src : Source) : List Instr :=
  let r := s.record src
  if r.condition = .live then
    if (match r.lastHsync with
        | some h => s.passed h Config.hsyncLoss
        | none => false) then [.hsyncLoss src]
    else if s.passed r.lastVsync Config.vsyncLoss then [.vsyncLoss src]
    else []
  else []

/-- The holding line or frame end that is due (R84, R86). -/
def State.dueLine (s : State) : List Instr :=
  let r := s.raster
  if r.mode = .pass then []
  else if r.lineDue then (if reached r.nextLine.lineStart s.sync.mtick then [.holdingLineStart] else [])
  else if reached r.lineEnd s.sync.mtick then [.holdingFrameEnd]
  else []

/-- The end of a write recovery interval that is due (R50). -/
def State.dueRecovery (s : State) : List Instr :=
  match s.bus.recovery with
  | some (_, ends) => if reached ends s.sync.mtick then [.writeRecoveryEnd] else []
  | none => []

/-- The start of a bus request that is due (R51). -/
def State.dueRequest (s : State) : List Instr :=
  if s.bus.phase = .idle ∧ s.bus.recovery = none ∧ s.bus.queue ≠ [] then [.busRequestStart] else []

/-- The step of a page's update that is due (R13, R14). -/
def State.duePage (s : State) (id : PageId) : List Instr :=
  let p := s.pages.get id
  if p.count.getLsbD 0 then [.pageUpdateEnd id] else if p.mark then [.pageUpdateStart id] else []

/-- The ten pages. -/
def allPages : List PageId := Source.all.map .source ++ [.cabinet]

/-- The events due at once, none of which waits for an ms tick. -/
def State.dueNow (s : State) : List Instr :=
  Source.all.flatMap s.dueLoss ++ s.dueLine ++ (s.headJob.map Job.takeCommand).toList ++ s.dueRecovery ++ s.dueRequest ++
    allPages.flatMap s.duePage

/-! ### Counting at an ms tick -/

/-- A timer's ms left, one less. -/
def tickDown (t : Option Nat) : Option Nat := t.map (· - 1)

/-- A slot's presence and over-current samples, and its timers (R22, R30, R34, R35, R128, R129). -/
def SlotRec.tick (present heavy : Bool) (r : SlotRec) : SlotRec :=
  { r with presenceCount := if decide (r.state = .empty) = present then r.presenceCount + 1 else 0,
           overCount := if r.state.powered && heavy then r.overCount + 1 else 0,
           settle := tickDown r.settle, start := tickDown r.start, grace := tickDown r.grace, cool := tickDown r.cool }

/-- An entry phase's ms left, one less (R152, R153). -/
def EntryPhase.tick : EntryPhase → EntryPhase
  | .idle => .idle
  | .pulsing left => .pulsing (left - 1)
  | .on left => .on (left - 1)
  | .off left => .off (left - 1)

/-- The debounced lines: 32 inputs, service, operator key. -/
def allLines : List Line := (List.finRange 32).map .input ++ [.service, .operatorKey]

/-- A line's bounce count after a sample (R142). -/
def Router.bounceOf (p : Pins) (r : Router) (l : Line) : Nat :=
  if p.line l = r.lineActive l then 0 else r.bounce.get (lineIndex l) + 1

/-- A line's sample counted (R142). -/
def Router.sampleLine (p : Pins) (r : Router) (l : Line) : Router :=
  { r with bounce := r.bounce.set (lineIndex l).val (r.bounceOf p l) (lineIndex l).isLt }

/-- The bounce counts after a scan's samples, and the entry phases one ms further (R142, R152, R153). -/
def Router.sample (p : Pins) (r : Router) : Router :=
  { allLines.foldl (Router.sampleLine p) r with
    entries := r.entries.map fun xs => xs.map fun x => { x with phase := x.phase.tick } }

/-- The pulses in flight, one ms further (R166, R169). -/
def Credit.tick (c : Credit) : Credit :=
  { c with pulses := PerSlot.ofFn fun i => (c.pulses.get i).map Pulse.countDown, meter := c.meter.map Pulse.countDown }

/-- A confirmation count after an ms interval (R68). -/
def confirmCount (confirms : Bool) (n : Nat) : Nat := if confirms then n + 1 else 0

/-- A record's confirmation counts after an ms interval in which its inputs stood high for so many mticks; an EMPTY record
is not judged, and only source 0 has a vertical input (R68). -/
def SyncRec.tick (high : Nat) (vertical : Option Nat) (r : SyncRec) : SyncRec :=
  if r.condition = .empty then r
  else
    { r with horizontalConfirm := confirmCount (confirmsChange r.horizontalPositive high) r.horizontalConfirm,
             verticalConfirm := match vertical with
               | some v => confirmCount (confirmsChange r.verticalPositive v) r.verticalConfirm
               | none => r.verticalConfirm }

/-- The time source 0's vertical input stood high (R68); a slot has none. -/
def Pins.vertical (p : Pins) : Source → Option Nat
  | .menu => some p.highVertical
  | .slot _ => none

/-- The mtick counter at the ms tick at `t`: it has run on to the tick, unless a stamp has taken it further. -/
def Sync.counterAt (t : Stamp) (u : Sync) : Stamp := if reached u.mtick t then t else u.mtick

/-- An edge of source 0's vertical input is forgotten at a tick a whole ms after it: a composite pulse stamped before it has
been recognised by then (R70; assumption 11). -/
def stillRecent (t : Stamp) (e : Stamp) : Bool := !(reached e t && decide (Config.mticksPerMs ≤ ticksFrom e t))

/-- The sync measurement unit at the next ms tick: the mtick counter and the confirmation counts. -/
def Sync.tick (p : Pins) (u : Sync) : Sync where
  mtick := u.counterAt (nextTick u.tickAt)
  tickAt := nextTick u.tickAt
  verticalEdge := u.verticalEdge.filter (stillRecent (nextTick u.tickAt))
  records := PerSource.ofFn fun src => (u.records.get src).tick (p.highHorizontal.get src) (p.vertical src)

/-- The ms tick: the mtick counter runs on and every count of ms moves by one. -/
def State.countTick (s : State) : State :=
  { s with sync := s.sync.tick s.pins,
           slots := PerSlot.ofFn fun i => (s.slot i).tick (s.pins.presence.get i) (s.pins.overcurrent.get i),
           ho.releaseTimer := tickDown s.ho.releaseTimer,
           router := s.router.sample s.pins, credit := s.credit.tick }

/-! ### What a scan finds due, stage by stage -/

/-- A command when its condition holds. -/
def dueIf (b : Bool) (c : Instr) : List Instr := if b then [c] else []

/-- A slot's events at a tick. -/
def State.dueSlot (s : State) (i : Slot) : List Instr :=
  let r := s.slot i
  dueIf (decide (r.state = .empty) && decide (Config.presenceCount ≤ r.presenceCount)) (.presenceDetected i) ++
    dueIf (decide (r.state ≠ .empty) && decide (Config.removalCount ≤ r.presenceCount)) (.removal i) ++
    dueIf (r.state.powered && decide (Config.overcurrentCount ≤ r.overCount)) (.overcurrent i) ++
    dueIf (decide (r.settle = some 0)) (.settleTimerExpiry i) ++ dueIf (decide (r.start = some 0)) (.startTimerExpiry i) ++
    dueIf (decide (r.grace = some 0)) (.graceTimerExpiry i) ++ dueIf (decide (r.cool = some 0)) (.coolTimerExpiry i)

/-- The polarity changes due at a tick (R68). -/
def State.duePolarity (s : State) (src : Source) : List Instr :=
  dueIf (decide (Config.polarityCount ≤ (s.record src).horizontalConfirm)) (.polarityChange src .horizontal) ++
    dueIf (decide (Config.polarityCount ≤ (s.record src).verticalConfirm)) (.polarityChange src .vertical)

/-- The release timer (R105). -/
def State.dueTimers (s : State) : List Instr :=
  dueIf (decide (s.ho.releaseTimer = some 0)) .releaseTimerExpiry

/-- A line whose count has reached 3 (R142). -/
def State.dueChange (s : State) (l : Line) : List Instr :=
  dueIf (decide (Config.debounceCount ≤ s.router.bounce.get (lineIndex l)))
    (if s.router.lineActive l then .lineRelease l else .lineActivation l)

/-- The end of an entry's phase for one input. -/
def dueEntry (k : Nat) (n : Nat) (x : InputState) : List Instr :=
  match x.phase with
  | .pulsing left => dueIf (decide (left = 0)) (.pulseEntryEnd k (Fin.ofNat 32 n))
  | .on left => dueIf (decide (left = 0)) (.autofireOnEnd k (Fin.ofNat 32 n))
  | .off left => dueIf (decide (left = 0)) (.autofireOffEnd k (Fin.ofNat 32 n))
  | .idle => []

/-- The ends of an entry's phases, the first state standing for input `n`. -/
def dueInputs (k : Nat) : Nat → List InputState → List Instr
  | _, [] => []
  | n, x :: xs => dueEntry k n x ++ dueInputs k (n + 1) xs

/-- The ends of entry phases over a map, the first entry having index `k`. -/
def dueEntries : Nat → List MapEntry → List (List InputState) → List Instr
  | k, e :: es, xs :: rest => dueInputs k e.first xs ++ dueEntries (k + 1) es rest
  | _, _, _ => []

/-- A coin line at its scan (R159, R160). -/
def State.dueCoin (s : State) (l : CoinLine) : List Instr :=
  match s.credit.line l, s.pins.coin l with
  | .idle, true => [.coinMeasuringBegins l]
  | .idle, false => []
  | .measuring _, false => [.coinPulseEnd l]
  | .measuring w, true => dueIf (decide (s.credit.setup.maxWidth + 1 ≤ w)) (.coinJam l)
  | .jammed, false => [.coinPulseEnd l]
  | .jammed, true => []

/-- The width of a coin line sampled active, one more (R159). -/
def CoinMeasure.widen (active : Bool) : CoinMeasure → CoinMeasure
  | .measuring w => .measuring (if active then w + 1 else w)
  | .idle => .idle
  | .jammed => .jammed

/-- The widths of both coin lines counted at a scan. -/
def State.widenCoins (s : State) : State :=
  { s with credit.coinA := s.credit.coinA.widen s.pins.coinA, credit.coinB := s.credit.coinB.widen s.pins.coinB }

/-- A pulse whose phase has run out. -/
def duePulse (p : Option Pulse) (onEnd offEnd : Instr) : List Instr :=
  match p with
  | some (.on left _) => dueIf (decide (left = 0)) onEnd
  | some (.off left) => dueIf (decide (left = 0)) offEnd
  | none => []

/-- A scan clears the release-wait marks of inputs it finds inactive (R154). -/
def Router.clearWaits (r : Router) : Router :=
  r.updateEntries fun _ _ n x => if r.active n then x else { x with wait := false }

/-- The chord at a scan (R156, R157): latch and freeze judged, the timer advanced or set to 0. -/
def State.advanceChord (s : State) : State :=
  let t := { s with router := s.router.clearWaits.chordReleases }
  { t with router.chordTimer := if t.chordRuns && t.router.chordHeld then t.router.chordTimer + 1 else 0 }

/-- The exit chord when the timer has reached the hold time (R156). -/
def State.dueChord (s : State) : List Instr :=
  dueIf (decide (0 < s.router.chordTimer) && decide (s.router.chordHold * 100 ≤ s.router.chordTimer)) .exitChord

/-- A scan's commands queued, and the scan one stage further. -/
def State.stage (s : State) (n : Nat) (cs : List Instr) : State := { s with pending := cs, scan := n }

/-- What the part does by itself at a step with no command waiting: at stage 0 what is due at once, or else the ms tick;
at the later stages the scan goes on in its order. What is due together is queued by ascending number (slots, inputs, map
entries), source 0 before the slots: so boards found present at one tick are queued for autoload by slot number, where R64
says in some order (assumption 42). -/
def State.idle (s : State) : State :=
  match s.scan with
  | 1 => s.stage 2 (Slot.all.flatMap s.dueSlot ++ s.dueTimers ++ Source.all.flatMap s.duePolarity)
  | 2 => s.stage 3 (allLines.flatMap s.dueChange)
  | 3 => s.stage 4 (dueEntries 0 s.router.drivenMap s.router.entries)
  | 4 => s.stage 5 ((Slot.all.filter fun i => (s.router.pendingMaps.get i).isSome).map .mapInstall)
  | 5 => s.advanceChord.stage 6 s.advanceChord.dueChord
  | 6 => s.drivePins.widenCoins.stage 7 (s.widenCoins.dueCoin .a ++ s.widenCoins.dueCoin .b)
  | 7 => s.stage 8 (Slot.all.flatMap (fun i => duePulse (s.credit.pulses.get i) (.coinPulseOnEnd i) (.coinPulseOffEnd i)) ++
      duePulse s.credit.meter .meterPulseOnEnd .meterPulseOffEnd)
  | 8 => s.stage 9 ((Slot.all.filter s.coinPulseDue).map .coinPulseStart ++ dueIf s.credit.meterDue .meterPulseStart)
  | 9 => s.stage 0 (dueIf s.rampDue .rampStep)
  | _ => if s.dueNow = [] then s.countTick.stage 1 [] else s.stage 0 s.dueNow

end Sys2Proof.Machine
end

