-- ==== Sys2Proof/Machine/Step.lean ====
section
/-! DEFINITION. One step of the block: the command at the front of the queue, or what the part does by itself. -/

namespace Sys2Proof.Machine

/-- One step: the front command's exec on the state with the queue's rest; on an empty queue the part's own time-driven
effects in place of idling (assumption 2). -/
def step (s : State) : Host.Outcome State Fault Refusal :=
  match s.pending with
  | c :: rest => exec c { s with pending := rest }
  | [] => finish s s.idle

/-- The state with the command that a word spells put at the front of its queue; unchanged where the word spells none,
as every word does here (assumption 4). -/
def State.withFetchWord (s : State) (nbits w : Nat) : State :=
  match decodeTableWord nbits w with
  | some c => { s with pending := c :: s.pending }
  | none => s

end Sys2Proof.Machine
end

