-- ==== Sys2Proof/Safety.lean ====
section
/-! DEFINITION. The terms the claims use: what a step leaves alone, how a job taken from the intake list ends, and the
invariants that every command and every step of the part by itself keep. -/

namespace Sys2Proof.Machine

/-! ### Frames -/

/-- From `s` to `t` no page's update count changes and no mark is lost: page updates apart, the part only adds marks
(R14). -/
def OnlyMarks (s t : State) : Prop :=
  ∀ id, (t.pages.get id).count = (s.pages.get id).count ∧ ((s.pages.get id).mark = true → (t.pages.get id).mark = true)

/-- From `s` to `t` nothing changes but page marks. -/
def Untouched (s t : State) : Prop := t = { s with pages := t.pages } ∧ OnlyMarks s t

/-- The job the intake would take next is `j`, of kind `kind` (R8, R9), in a window of canonical form. -/
def NextJob (s : State) (j : Job) (kind : Nat) : Prop :=
  s.window.wf = true ∧ s.headJob = some j ∧ j.word 0 = kind

/-- The job of `j` has left the head of the intake list and ended at its take (R8, R10): its cell is DONE, words 16 to 31
hold the result, every other memory word reads as before, and no other cell, notice or mask of `s` has changed. -/
structure EndsAtTake (s t : State) (j : Job) (r : Result) (detail : Nat) (data : List Nat) : Prop where
  intake : t.intake = { s.intake with cells := s.intake.cells.set j.cell.val .done, list := s.intake.list.tail }
  result : ∀ k, k < 16 → t.readMem (cellBase j.cell + 16 + k) = (resultWords r detail data).getD k 0
  memory : ∀ a, a < cellBase j.cell + 16 ∨ cellBase j.cell + 32 ≤ a → t.readMem a = s.readMem a
  marks : OnlyMarks s t

/-- The job of `j` has left the head of the intake list and stays with its owner (R8): its cell is TAKEN and no memory
word has changed. -/
structure WaitsWithOwner (s t : State) (j : Job) : Prop where
  intake : t.intake = { s.intake with cells := s.intake.cells.set j.cell.val .taken, list := s.intake.list.tail }
  window : t.window = s.window
  marks : OnlyMarks s t

/-- From `s` to `t` an owner completes the job of cell `c` (R10): words 16 to 31 hold the result, the cell is DONE, every
other memory word reads as before, and no other cell, notice or mask has changed. -/
structure CompletesCell (s t : State) (c : CellNo) (r : Result) (detail : Nat) (data : List Nat) : Prop where
  intake : t.intake = { s.intake with cells := s.intake.cells.set c.val .done }
  result : ∀ k, k < 16 → t.readMem (cellBase c + 16 + k) = (resultWords r detail data).getD k 0
  memory : ∀ a, a < cellBase c + 16 ∨ cellBase c + 32 ≤ a → t.readMem a = s.readMem a
  marks : OnlyMarks s t

/-- How a job ends: its cell with the result, the detail and the data words written there. -/
structure Ending where
  cell : CellNo
  result : Result
  detail : Nat
  data : List Nat
deriving DecidableEq, Repr

/-- A cell is DONE and its words 16 to 31 hold the result (R10). -/
def Shows (t : State) (e : Ending) : Prop :=
  t.cell e.cell = .done ∧ ∀ k, k < 16 → t.readMem (cellBase e.cell + 16 + k) = (resultWords e.result e.detail e.data).getD k 0

/-- From `s`, with the intake at `intake`, to `t` the jobs of `es` end (R10): the cell of each is DONE with its result, every
other memory word reads as before, and no other cell, notice or mask has changed. -/
structure JobsEnd (s t : State) (intake : Intake) (es : List Ending) : Prop where
  intake : t.intake = { intake with cells := es.foldl (fun cs e => cs.set e.cell.val .done) intake.cells }
  results : ∀ e, e ∈ es → Shows t e
  memory : ∀ a, (∀ e, e ∈ es → a < cellBase e.cell + 16 ∨ cellBase e.cell + 32 ≤ a) → t.readMem a = s.readMem a
  marks : OnlyMarks s t

/-- The intake once it has taken the job of `j` (R8): the cell TAKEN, the list without its head. -/
def State.taking (s : State) (j : Job) : Intake :=
  { s.intake with cells := s.intake.cells.set j.cell.val .taken, list := s.intake.list.tail }

/-- The cells are TAKEN, each with its owner, and no two of them are the same. -/
def Held (s : State) (cells : List CellNo) : Prop := cells.Nodup ∧ ∀ c, c ∈ cells → s.cell c = .taken

/-- A job of the hand-over, if any, holds a TAKEN cell, and not the cell of the job `j` being taken. -/
def HeldBeside (s : State) (j : Job) (a : Option SwitchJob) : Prop :=
  ∀ k, a = some k → s.cell k.cell = .taken ∧ k.cell ≠ j.cell

/-- The active job of the hand-over, if any, ends before its cut with a result, detail 0 and its words 18 to 21 (R126). -/
def State.activeEnds (s : State) (r : Result) : List Ending :=
  s.ho.active.toList.map fun a => ⟨a.cell, r, 0, [a.target.number, s.ho.frames, s.ho.evicted.toNat, 0]⟩

/-- The waiting job of the hand-over, if any, ends with a result, its words 17 to 21 being 0 (R116, R117). -/
def State.waitingEnds (s : State) (r : Result) : List Ending :=
  s.ho.waiting.toList.map fun w => ⟨w.cell, r, 0, []⟩

/-- The hand-over's target has no pending power-up to withdraw from (R32). -/
def NothingPending (s : State) : Prop := ∀ i, s.ho.target = some (.slot i) → (s.slot i).state.beforeCheck = false

/-- The hand-over controller withdraws from its target's pending power-up, which is cancelled when no requester is left
(R32). -/
def WithdrawsTarget (s t : State) : Prop :=
  ∀ i, t.slot i =
    if s.ho.target = some (.slot i) ∧ (s.slot i).state.beforeCheck = true then
      { s.slot i with powerUp := (s.slot i).powerUp.bind fun p =>
          if p.job = none ∧ p.auto = false then none else some { p with handOver := none } }
    else s.slot i

/-- The hand-over a job starts finds its target ready (R108, R109): source 0 stable, or a RUNNING slot that is stable at a
line period the monitor accepts. -/
def Ready (s : State) : Source → Prop
  | .menu => (s.record .menu).stable = true
  | .slot i => (s.slot i).state = .running ∧ (s.record (.slot i)).stable = true ∧ s.fitsMonitor (.slot i) = true

/-- The target of the hand-over a job asks for is not ready, and waited for without a power-up request (R103, R109): source 0
not stable, a LOST slot, or a RUNNING slot not stable at a last stable P the monitor accepts. -/
def Awaited (s : State) : Source → Prop
  | .menu => (s.record .menu).stable = false
  | .slot i => (s.slot i).state = .lost ∨
      (s.slot i).state = .running ∧ (s.record (.slot i)).stable = false ∧ s.fitsMonitor (.slot i) = true

/-- The phase in which readiness is judged at once leaves a hand-over to a target that passes its checks unpowered (R108,
R109). -/
def Reaches (s : State) (target : Source) (p : Phase) : Prop :=
  Ready s target ∧ p = .glide ∨ Awaited s target ∧ p = .waitTarget

/-- At a soft restart every POWER job leaves its slot's power-up (R46), and the controller the pending one of its target (R32,
R125); a pending power-up left without a requester is cancelled. -/
def LeavesPowerUps (s t : State) : Prop :=
  ∀ i, t.slot i = { s.slot i with powerUp := (s.slot i).powerUp.bind fun p =>
    let waits := (s.slot i).state.beforeCheck = true
    let handOver := if waits ∧ s.ho.target = some (.slot i) then none else p.handOver
    if waits ∧ handOver = none ∧ p.auto = false then none else some { p with job := none, handOver := handOver } }

/-- The slots after a job's pin flag has pinned its target slot (R39, R104). -/
def PinsTarget (s t : State) (target : Source) (pin : Bool) : Prop :=
  ∀ i, t.slot i = if target = .slot i ∧ pin = true then { s.slot i with pinned := true } else s.slot i

/-- A slot that a power-up check may evict (R28): RUNNING, not pinned, not on air, and neither the outgoing nor the target of
a hand-over in flight. -/
abbrev Evictable (s : State) (v : Slot) : Prop :=
  (s.slot v).state = .running ∧ (s.slot v).pinned = false ∧ s.ho.onAir ≠ some (.slot v) ∧
    (s.ho.phase ≠ .quiet → s.ho.outgoing ≠ some (.slot v) ∧ s.ho.target ≠ some (.slot v))

/-- The slots that may be evicted, in the order in which the check reads them: from the tail of the warm list (R28). -/
def State.evictable (s : State) : List Slot := s.warm.reverse.filter fun v => decide (Evictable s v)

/-- The draw classes of some slots added up. -/
def State.classSum (s : State) (vs : List Slot) : Nat := (vs.map s.drawClass).sum

/-- A power-up check for slot `i` evicts the slots `vs` (R28): the evictable slots in their order, up to the first with which
the slot's class fits the budget. -/
structure EvictsFor (s : State) (i : Slot) (vs : List Slot) : Prop where
  order : vs <+: s.evictable
  fits : s.draw + s.drawClass i ≤ s.budget + s.classSum vs
  least : ∀ n, n < vs.length → s.budget + s.classSum (vs.take n) < s.draw + s.drawClass i

/-- The on-air source is seen and heard, and its own level is not the level at which the sound stands (R176, R178): given
the cabinet back, it fades in. -/
structure HeardAt (s : State) (src : Source) : Prop where
  wanted : s.audio.wanted = some src
  crosspoint : s.audio.crosspoint = some src
  ramp : 0 < s.audio.ramp
  level : s.audio.current ≠ levelFormula s.audio.master (s.audio.ratios.get src) s.audio.floor

/-- The cabinet is given back to the outgoing `src` (R115): what the cancel does to the parts of the state besides the
controller's own. -/
structure GivenBack (s t : State) (src : Source) : Prop where
  raster : t.raster = { s.raster with releaseOrder := none, cutArm := none }
  audio : t.audio = { s.audio with target := levelFormula s.audio.master (s.audio.ratios.get src) s.audio.floor }
  credit : t.credit = (match src with
    | .menu => s.credit
    | .slot i => if s.ho.outgoingFeed then { s.credit with feed := s.credit.feed.set i true } else s.credit)
  driven : t.router.driven = (match src with
    | .menu => none
    | .slot i => some i)
  router : t.router = { s.router with
    driven := t.router.driven, entries := resetEntries s.router.inputs t.router.drivenMap, activePins := 0,
    chordFreeze := t.router.chordFreeze }

/-- The generator starts HOLD at once from PASS (R89): no selection, no pass timing, the accumulator 0, the first line at the
present instant, and the pass timing, its P limited to the monitor window, as the holding timing (R87). -/
structure HoldsAtOnce (s t : State) : Prop where
  raster : t.raster = { s.raster with
    mode := .hold, crosspoint := none, p := t.raster.p, l := t.raster.l, acc := 0, lineIndex := 1, lineBegun := false,
    lineStart := s.sync.mtick, lineLength := 0, pass := none, releaseOrder := none, cutArm := none }
  timing : ∀ tm, s.raster.pass = some tm → t.raster.l = tm.l ∧
    t.raster.p = if tm.p < s.raster.pMin then s.raster.pMin
      else if s.raster.pMax < tm.p then s.raster.pMax else tm.p

/-- The router's state of entry `k` of the driven slot's map for input `n` (section 8.2); none where the entry does not
cover it. -/
def State.entryState (s : State) (k n : Nat) : Option InputState :=
  match s.router.drivenMap[k]?, s.router.entries[k]? with
  | some e, some xs => if e.first ≤ n then xs[n - e.first]? else none
  | _, _ => none

/-- No hand-over is in flight, and the slot is not on air: what befalls the slot does not reach the controller (R101). -/
def Aside (s : State) (i : Slot) : Prop := s.ho.phase = .quiet ∧ s.ho.onAir ≠ some (.slot i)

/-! ### The pages' words (section 1.8) -/

/-- Word `k` of a page. -/
def State.pageWord (t : State) (id : PageId) (k : Nat) : Word := t.readMem (pageBase id + k)

/-- Word `k` of a page holds a number. -/
def ShowsAt (t : State) (id : PageId) (k n : Nat) : Prop := t.pageWord id k = BitVec.ofNat 16 n

/-- Words `k` and `k` + 1 of a page hold a 32-bit number, the low word first (R19). -/
def ShowsLong (t : State) (id : PageId) (k : Nat) (v : BitVec 32) : Prop :=
  ShowsAt t id k (v.toNat % 65536) ∧ ShowsAt t id (k + 1) (v.toNat / 65536)

/-- The source page of `src` as it stands in `t` shows the measurement fields that `s` holds (section 1.8). -/
structure ShowsMeasured (s t : State) (src : Source) : Prop where
  stable : (t.pageWord (.source src) 2).getLsbD 2 = (s.record src).stable
  interlaced : (t.pageWord (.source src) 2).getLsbD 3 = (s.record src).interlaced
  polarity : (t.pageWord (.source src) 2).getLsbD 4 = (s.record src).horizontalPositive
  period : ShowsAt t (.source src) 22 (s.record src).p
  lines : ShowsAt t (.source src) 23 (s.record src).l
  count : ShowsAt t (.source src) 24 (s.record src).stableCount
  frame : ShowsLong t (.source src) 25 (s.record src).frameTime
  last : ShowsAt t (.source src) 27 (s.record src).lastP ∧ ShowsAt t (.source src) 28 (s.record src).lastL
  unused : ∀ k, 36 ≤ k → k < 64 → ShowsAt t (.source src) k 0

/-- The descriptor's fields of a page (R20): the copy's figures, its window in 16ths, or 0 in all of them without a copy. -/
def ShowsDescriptor (t : State) (id : PageId) : Option Descriptor → Prop
  | none => ∀ k, 4 ≤ k → k ≤ 20 → ShowsAt t id k 0
  | some d =>
    ShowsAt t id 4 d.title ∧ ShowsAt t id 5 d.drawClass ∧
      (d.name.length = 12 → ∀ k, k < 6 →
        ShowsAt t id (6 + k) ((d.name.getD (2 * k) 0).toNat + 256 * (d.name.getD (2 * k + 1) 0).toNat)) ∧
      ShowsAt t id 12 d.settle ∧ ShowsAt t id 13 d.startTimeout ∧ ShowsAt t id 14 d.grace ∧ ShowsAt t id 15 d.cool ∧
      ShowsAt t id 16 d.coinOn ∧ ShowsAt t id 17 d.coinOff ∧ ShowsAt t id 18 d.pulseCap ∧
      ShowsAt t id 19 (d.windowLow * 64) ∧ ShowsAt t id 20 (d.windowHigh * 64)

/-- The source page of slot `i` as it stands in `t` shows what `s` holds (section 1.8, R20). -/
structure ShowsSlot (s t : State) (i : Slot) : Prop where
  state : ShowsAt t (.source (.slot i)) 1 (match (s.slot i).state with
    | .empty => 0 | .loading => 1 | .undescribed => 2 | .off => 3 | .settling => 4 | .starting => 5 | .running => 6
    | .onAir => 7 | .lost => 8 | .cooling => 9 | .fault => 10)
  pinned : (t.pageWord (.source (.slot i)) 2).getLsbD 0 = (s.slot i).pinned
  stale : (t.pageWord (.source (.slot i)) 2).getLsbD 1 = s.bus.stale.get i
  reason : ShowsAt t (.source (.slot i)) 3 (match (s.slot i).reason with
    | .none => 0 | .removed => 1 | .overcurrent => 2 | .startTimeout => 3 | .lost => 4 | .outOfRange => 5 | .chord => 6
    | .restart => 7 | .noBudget => 8)
  descriptor : ShowsDescriptor t (.source (.slot i)) (s.copy i)
  restarts : ShowsAt t (.source (.slot i)) 21 (s.slot i).restarts
  measured : ShowsMeasured s t (.slot i)
  pending : ShowsAt t (.source (.slot i)) 29 (s.credit.pending.get i)
  delivered : ShowsLong t (.source (.slot i)) 30 (s.credit.delivered.get i)
  entries : ShowsAt t (.source (.slot i)) 32 (s.router.maps.get i).entries.length
  label : t.pageWord (.source (.slot i)) 33 = (s.router.maps.get i).label
  ratio : ShowsAt t (.source (.slot i)) 34 (s.audio.ratios.get (.slot i))

/-- Source page 0 as it stands in `t` shows what `s` holds (R15): the monitor window in its window fields, and 0 in the fields
that only a slot has. -/
structure ShowsMenu (s t : State) : Prop where
  state : ShowsAt t (.source .menu) 1 (if s.ho.onAir = some .menu then 7 else 6)
  flags : (t.pageWord (.source .menu) 2).getLsbD 0 = false ∧ (t.pageWord (.source .menu) 2).getLsbD 1 = false
  none : ∀ k, 3 ≤ k ∧ k ≤ 18 ∨ k = 21 ∨ 29 ≤ k ∧ k ≤ 33 ∨ k = 35 → ShowsAt t (.source .menu) k 0
  window : ShowsAt t (.source .menu) 19 s.raster.pMin ∧ ShowsAt t (.source .menu) 20 s.raster.pMax
  ratio : ShowsAt t (.source .menu) 34 (s.audio.ratios.get .menu)
  measured : ShowsMeasured s t .menu

/-- The number in a field that holds a source: 0 to 8, or 15 for NONE (R19). -/
def sourceShown : Option Source → Nat
  | some .menu => 0
  | some (.slot i) => i.number
  | none => 15

/-- The cabinet page as it stands in `t` shows what `s` holds (section 1.8): the hand-over, the raster, the inputs, the
credit, the supply, the bus, the intake fault and the levels. -/
structure ShowsCabinet (s t : State) : Prop where
  onAir : ShowsAt t .cabinet 1 (sourceShown s.ho.onAir)
  phase : ShowsAt t .cabinet 2 (match s.ho.phase with
    | .quiet => 0 | .prepare => 1 | .fadeOut => 2 | .release => 3 | .waitTarget => 4 | .glide => 5 | .align => 6
    | .fadeIn => 7)
  kind : ShowsAt t .cabinet 3 (match s.ho.kind with
    | .none => 0 | .requested => 1 | .fallback => 2 | .recovery => 3)
  sources : ShowsAt t .cabinet 4 (sourceShown s.ho.outgoing) ∧ ShowsAt t .cabinet 5 (sourceShown s.ho.target)
  mode : ShowsAt t .cabinet 6 (if s.raster.mode = .pass then 0 else 1)
  holding : ShowsAt t .cabinet 7 s.raster.p ∧ ShowsAt t .cabinet 8 s.raster.l
  inputs : ShowsLong t .cabinet 10 s.router.inputs
  bank : ShowsAt t .cabinet 14 s.credit.bank
  totals : ShowsLong t .cabinet 15 s.credit.coins ∧ ShowsLong t .cabinet 17 s.credit.granted ∧
    ShowsLong t .cabinet 19 s.credit.withdrawn ∧ ShowsLong t .cabinet 21 s.credit.unbanked ∧
    ShowsLong t .cabinet 23 s.credit.deliveredTotal
  supply : ShowsAt t .cabinet 28 s.draw ∧ ShowsAt t .cabinet 29 s.budget
  warm : ∀ k, k < 8 → ShowsAt t .cabinet (30 + k) (match s.warm[k]? with
    | some i => i.number
    | none => 0)
  queue : ShowsAt t .cabinet 38 s.bus.queue.length
  fault : ShowsAt t .cabinet 39 s.intake.faultCell ∧ ShowsAt t .cabinet 40 (match s.intake.faultReason with
    | .none => 0 | .cellBusy => 1 | .restarting => 2)
  levels : ShowsAt t .cabinet 41 s.audio.current ∧ ShowsAt t .cabinet 42 s.audio.target
  unused : ∀ k, 43 ≤ k → k < 64 → ShowsAt t .cabinet k 0

/-! ### Invariants -/

/-- The window's memory is in canonical form, the reserved bits of NOTICE and NOTICE_MASK are 0 (R3), and the intake list
holds each POSTED cell once and no other (section 1.3). -/
structure WindowSound (s : State) : Prop where
  memory : s.window.wf = true
  notice : s.intake.notice &&& 0xE000 = 0
  mask : s.intake.mask &&& 0x6000 = 0
  listed : s.intake.list.Nodup
  posted : ∀ c, c ∈ s.intake.list ↔ s.cell c = .posted

/-- The units waiting in all slots' pending pulses. -/
def Credit.pendingSum (c : Credit) : Nat := (Slot.all.map c.pending.get).sum

/-- Conservation of coin units, modulo 2^32 (R174). -/
def CoinsConserved (s : State) : Prop :=
  s.credit.coins + s.credit.granted =
    BitVec.ofNat 32 (s.credit.bank + s.credit.pendingSum) + s.credit.deliveredTotal + s.credit.unbanked +
      s.credit.withdrawn

/-- The bank never exceeds 9999, nor the meter pending count 65535 (R161, R162). -/
def CreditBounded (s : State) : Prop := s.credit.bank ≤ Config.bankMax ∧ s.credit.meterPending ≤ Config.meterMax

/-- The generator is in PASS exactly when a source is on air, the video crosspoint selects the on-air source and no other
(R82), and the audio unit's wanted selection is the on-air source (R176). -/
structure AirSound (s : State) : Prop where
  mode : s.raster.mode = .pass ↔ s.ho.onAir.isSome = true
  video : s.raster.crosspoint = s.ho.onAir
  audio : s.audio.wanted = s.ho.onAir

/-- The requests for a slot's descriptor that stand in the bus queue. -/
def State.loads (s : State) : List Slot := (s.bus.queue.filter BusRequest.isLoad).map BusRequest.slot

/-- The warm list holds each slot in a powered state exactly once and no other (R38), the powered draw never exceeds the
supply budget (R37), and at most one AUTOLOAD or RELOAD request stands per slot, for a slot in LOADING (R52). -/
structure SupplySound (s : State) : Prop where
  once : s.warm.Nodup
  warm : ∀ i, i ∈ s.warm ↔ (s.slot i).state.powered = true
  draw : s.draw ≤ s.budget
  loadOnce : s.loads.Nodup
  loading : ∀ i, i ∈ s.loads → (s.slot i).state = .loading

/-- What each phase of the hand-over holds (R97, R100, R105, R106): in QUIET no outgoing, target or active job; before
release the outgoing on air, and a target; between release and cut nothing on air, and a target; in FADE_IN a source on
air. The cut arm stands in ALIGN alone, the release order and the release timer in RELEASE alone, and a driven slot is on
air (R149). -/
structure PhaseSound (s : State) : Prop where
  settled : s.ho.phase ≠ .prepare
  quiet : s.ho.phase = .quiet → s.ho.outgoing = none ∧ s.ho.target = none ∧ s.ho.active = none
  leaving : s.ho.phase.beforeRelease = true → s.ho.outgoing = s.ho.onAir ∧ s.ho.onAir.isSome = true ∧
    s.ho.target.isSome = true
  held : s.ho.phase.beforeCut = true → s.ho.onAir = none ∧ s.ho.target.isSome = true
  entering : s.ho.phase = .fadeIn → s.ho.onAir.isSome = true
  armed : s.raster.cutArm.isSome = true → s.ho.phase = .align
  ordered : s.raster.releaseOrder.isSome = true → s.ho.phase = .release
  timed : s.ho.releaseTimer.isSome = true → s.ho.phase = .release
  driven : ∀ i, s.router.driven = some i → s.ho.onAir = some (.slot i)

end Sys2Proof.Machine
end

