-- ==== Sys2Proof/Certificates/Slice0/Obligations.lean ====
section
/-! DEFINITION. The statements for the provers. Each says which rule of spec/ it formalises; a frame is written as
`t = { s with … }`, naming every part of the state that may have changed. -/

open Sys2Proof Sys2Proof.Machine

/-! ### The step and the queue -/

/-- A step at a state with command `c` at the front of its queue is exec of `c` on the state with the queue's rest. The
queue is the model's own (assumption 7): no rule of the spec says this. -/
def Obligations.StepRunsFront : Prop :=
  ∀ (c : Instr) (s : State), Machine.step { s with pending := c :: s.pending } = exec c s

/-- Every command answers a next state, in every state, and leaves the queue as it is. That no condition stops the part
is read from the spec's naming none (assumption 30), and the queue is the model's own (assumption 7): no rule says
this. -/
def Obligations.EveryCommandCompletes : Prop :=
  ∀ (c : Instr) (s : State), ∃ t, exec c s = .next t ∧ t.pending = s.pending

/-- With no command waiting and nothing due at once, a step is an ms tick, 24000 mticks after the one before: the mtick
counter runs on to it, unless a stamp has taken it further, and every slot timer falls by one (Conventions, R30, R34;
the tick is the model's choice, assumption 2). -/
def Obligations.TickCountsTimers : Prop :=
  ∀ s : State, s.pending = [] → s.scan = 0 → s.dueNow = [] →
    ∃ t, Machine.step s = .next t ∧ t.sync.tickAt = s.sync.tickAt + 24000 ∧
      t.sync.mtick = (if (s.sync.tickAt + 24000 - s.sync.mtick).toNat < 0x80000000 then s.sync.tickAt + 24000
        else s.sync.mtick) ∧
      t.scan = 1 ∧ t.pending = [] ∧ t.window = s.window ∧ t.intake = s.intake ∧
      ∀ i, (t.slot i).state = (s.slot i).state ∧ (t.slot i).settle = (s.slot i).settle.map (· - 1) ∧
        (t.slot i).start = (s.slot i).start.map (· - 1) ∧ (t.slot i).grace = (s.slot i).grace.map (· - 1) ∧
        (t.slot i).cool = (s.slot i).cool.map (· - 1)

/-! ### Invariants that every step keeps, and power-on reset -/

/-- Every step keeps the window's canonical form, the reserved bits of NOTICE and NOTICE_MASK at 0 (R3), and the intake
list as the list of POSTED cells, each once (section 1.3). -/
def Obligations.StepKeepsWindowSound : Prop :=
  ∀ s t : State, WindowSound s → Machine.step s = .next t → WindowSound t

/-- Conservation of coin units (R174), 0 on both sides after power-on reset and kept by every step; and the bank and the
meter pending count stay within their bounds (R161, R162). -/
def Obligations.CoinUnitsConserved : Prop :=
  (State.reset.credit.coins = 0 ∧ State.reset.credit.granted = 0 ∧ State.reset.credit.withdrawn = 0 ∧
    State.reset.credit.unbanked = 0 ∧ State.reset.credit.deliveredTotal = 0 ∧ CoinsConserved State.reset) ∧
  (∀ s t : State, CoinsConserved s → Machine.step s = .next t → CoinsConserved t) ∧
  (∀ s t : State, CreditBounded s → Machine.step s = .next t → CreditBounded t)

/-- Every step keeps the generator in PASS exactly when a source is on air, with the video crosspoint on that source
(R82) and the audio unit wanting it (R176). -/
def Obligations.StepKeepsAirSound : Prop := ∀ s t : State, AirSound s → Machine.step s = .next t → AirSound t

/-- Every step keeps the powered draw within the supply budget (R37), the warm list the list of powered slots, each once
(R38), and at most one load request per slot, for a slot in LOADING (R52). -/
def Obligations.StepKeepsSupplySound : Prop :=
  ∀ s t : State, SupplySound s → Machine.step s = .next t → SupplySound t

/-- Every step keeps what each phase of the hand-over holds (R97, R100, R105, R106, R149). -/
def Obligations.StepKeepsPhaseSound : Prop :=
  ∀ s t : State, PhaseSound s → Machine.step s = .next t → PhaseSound t

/-- The state after power-on reset meets every invariant stated here. -/
def Obligations.ResetMeetsInvariants : Prop :=
  WindowSound State.reset ∧ CoinsConserved State.reset ∧ CreditBounded State.reset ∧ AirSound State.reset ∧
    SupplySound State.reset ∧ PhaseSound State.reset

/-- Power-on reset, from any state (R18, R45, R64, R81, R100): every memory word 0, the registers as stated, every cell
FREE, every page marked with count 0, every slot EMPTY and unpowered, the budget 40, no request on the bus. -/
def Obligations.PowerOnResetState : Prop :=
  ∀ s : State, ∃ t, exec .powerOnReset s = .next t ∧ (∀ a, t.readMem a = 0) ∧ t.readRegister .post = 0 ∧
    t.readRegister .done = 0 ∧ t.readRegister .notice = 0 ∧ t.readRegister .noticeMask = 0 ∧
    t.readRegister .control = 0 ∧ t.readRegister .ident = 0x9081 ∧ t.attn = false ∧ (∀ c, t.cell c = .free) ∧
    t.intake.list = [] ∧ t.intake.faultCell = 0 ∧ t.intake.faultReason = .none ∧
    (∀ id, t.pages.get id = ⟨0, true⟩) ∧
    (∀ i, (t.slot i).state = .empty ∧ t.supplyOn i = false ∧ t.resetAsserted i = true ∧ (t.slot i).reason = .none ∧
      (t.slot i).pinned = false ∧ (t.slot i).restarts = 0 ∧ t.copy i = none) ∧
    t.warm = [] ∧ t.budget = 40 ∧ t.draw = 0 ∧ t.bus.queue = [] ∧ t.sync.mtick = 0 ∧ t.ho.phase = .quiet ∧
    t.ho.onAir = none ∧ t.raster.mode = .hold ∧ t.raster.crosspoint = none ∧ t.audio.master = 128 ∧
    t.audio.current = 0 ∧ t.credit.bank = 0

/-! ### The shared window and its registers -/

/-- A host write of a memory word (R1): the word reads back, every other word and every register reads as before, and
nothing else of the part changes. -/
def Obligations.MemoryWriteReadsBack : Prop :=
  ∀ (s : State) (addr : BitVec 13) (v : Word), s.window.wf = true → addr.toNat < 0x1FFA →
    ∃ t, exec (.windowWrite addr v) s = .next t ∧ t.readWindow addr = v ∧
      (∀ b : BitVec 13, b ≠ addr → t.readWindow b = s.readWindow b) ∧
      t = { s with window := t.window, pages := t.pages } ∧ OnlyMarks s t

/-- An access to 0x1FFA to 0x1FFF is no memory access: it acts on the register at that address (R1, R3). -/
def Obligations.RegisterAddressActsAsRegister : Prop :=
  ∀ (s : State) (v : Word), exec (.windowWrite 0x1FFA v) s = exec (.post v) s ∧
    exec (.windowWrite 0x1FFB v) s = exec (.done v) s ∧ exec (.windowWrite 0x1FFC v) s = exec (.notice v) s ∧
    exec (.windowWrite 0x1FFD v) s = exec (.noticeMask v) s ∧
    exec (.windowWrite 0x1FFE v) s = exec (.softRestart v) s ∧
    exec (.windowWrite 0x1FFF v) s = exec (.writeNoEffect .ident v) s

/-- A write to POST (R6, R7): each set bit of a FREE cell, with no soft restart in progress, posts the cell at the tail
of the intake list in ascending order; every other set bit is an intake fault, the record keeping the last; no word of
the window changes. -/
def Obligations.PostWrite : Prop :=
  ∀ (s : State) (v : Word),
    let posts (c : CellNo) : Bool := v.getLsbD c.val && decide (s.cell c = .free) && !s.intake.restarting
    let faults : List CellNo := allCells.filter fun c => v.getLsbD c.val && !posts c
    ∃ t, exec (.post v) s = .next t ∧ (∀ c, t.cell c = if posts c then .posted else s.cell c) ∧
      t.intake.list = s.intake.list ++ allCells.filter posts ∧
      t.intake.mask = s.intake.mask ∧ t.intake.restarting = s.intake.restarting ∧
      (match faults.getLast? with
        | none => t.intake.notice = s.intake.notice ∧ t.intake.faultCell = s.intake.faultCell ∧
            t.intake.faultReason = s.intake.faultReason
        | some c => t.intake.notice = s.intake.notice ||| 0x0800 ∧ t.intake.faultCell = c.val ∧
            t.intake.faultReason = (if s.intake.restarting then .restarting else .cellBusy) ∧
            t.pages.cabinet.mark = true) ∧
      t = { s with intake := t.intake, pages := t.pages } ∧ OnlyMarks s t

/-- A write to DONE (R11): each DONE cell whose bit is set returns to FREE, a bit set for any other cell is ignored, and
no word of the window changes. -/
def Obligations.DoneWrite : Prop :=
  ∀ (s : State) (v : Word), ∃ t, exec (.done v) s = .next t ∧
    (∀ c, t.cell c = if v.getLsbD c.val = true ∧ s.cell c = .done then .free else s.cell c) ∧
    t.intake = { s.intake with cells := t.intake.cells } ∧
    t = { s with intake := t.intake, pages := t.pages } ∧ OnlyMarks s t

/-- Writes to NOTICE and NOTICE_MASK (R3, R4): the notice bits written as 1 are cleared; bits 0 to 12 and 15 of the
mask are stored. WRITE_NO_EFFECT, a write to IDENT or of bits that are not named (R3), changes nothing: that the row
stands for such writes alone is the model's reading (assumption 12). -/
def Obligations.NoticeAndMaskWrites : Prop :=
  ∀ (s : State) (v : Word) (r : Register),
    (∃ t, exec (.notice v) s = .next t ∧
      (∀ n, n < 16 → t.intake.notice.getLsbD n = (s.intake.notice.getLsbD n && !v.getLsbD n)) ∧
      t.intake = { s.intake with notice := t.intake.notice } ∧
      t = { s with intake := t.intake, pages := t.pages } ∧ OnlyMarks s t) ∧
    (∃ t, exec (.noticeMask v) s = .next t ∧
      (∀ n, n < 16 → t.intake.mask.getLsbD n = (v.getLsbD n && decide (n ≠ 13 ∧ n ≠ 14))) ∧
      t.intake = { s.intake with mask := t.intake.mask } ∧
      t = { s with intake := t.intake, pages := t.pages } ∧ OnlyMarks s t) ∧
    (v &&& r.namedBits = 0 → ∃ t, exec (.writeNoEffect r v) s = .next t ∧ Untouched s t)

/-- The ATTN line (R5): asserted exactly while the DONE enable stands with a cell DONE, or some notice bit 0 to 12 is
enabled and set; a mask write that enables either asserts it at once, and a mask of 0 keeps it deasserted. -/
def Obligations.AttnLevel : Prop :=
  (∀ s : State, s.attn = true ↔
    (s.intake.mask.getLsbD 15 = true ∧ ∃ c, s.cell c = .done) ∨
      ∃ n, n ≤ 12 ∧ s.intake.notice.getLsbD n = true ∧ s.intake.mask.getLsbD n = true) ∧
  (∀ (s : State) (v : Word), ∃ t, exec (.noticeMask v) s = .next t ∧
    ((v.getLsbD 15 = true ∧ ∃ c, s.cell c = .done) → t.attn = true) ∧
    ((∃ n, n ≤ 12 ∧ s.intake.notice.getLsbD n = true ∧ v.getLsbD n = true) → t.attn = true) ∧
    (v = 0 → t.attn = false))

/-- A soft restart with no job transaction on the bus, or an AUTOLOAD or RELOAD in flight, which is not waited for
(R16, R17, R46, R63, R81, R158): every cell FREE, the intake list empty, NOTICE and NOTICE_MASK 0, and the restart over
at once with every page marked; the words of the window, the slots but for their power-ups' requesters, the warm list,
the budget, the records, the maps, the transaction in flight and the coin setup stand. A write found between polls
stops at once too, here outside the descriptor bytes, its recovery interval of 10 ms begun (R50): that it is between
polls until the ms tick of its next poll is the model's choice (assumption 29). The hand-over in flight (R125) goes on in FADE_IN, as a FALLBACK and as a
RECOVERY; a REQUESTED one is cancelled back to the outgoing before release, here one heard at another level than its
own with a ramp (R115), and between release and cut becomes a FALLBACK with reason RESTART (R121); either way the
controller withdraws from a pending power-up of the target (R32). -/
def Obligations.SoftRestartAtOnce : Prop :=
  (∀ (s : State) (v : Word), v.getLsbD 0 = true → s.intake.restarting = false →
    (s.bus.phase = .idle ∨ ∃ q rest, s.bus.queue = q :: rest ∧ q.isLoad = true) → s.bus.stopping = false →
    ∃ t, exec (.softRestart v) s = .next t ∧ (∀ c, t.cell c = .free) ∧ t.intake.list = [] ∧ t.intake.notice = 0 ∧
      t.intake.mask = 0 ∧ t.intake.restarting = false ∧ t.intake.faultCell = s.intake.faultCell ∧
      t.intake.faultReason = s.intake.faultReason ∧ t.attn = false ∧ t.window = s.window ∧
      (∀ id, t.pages.get id = ⟨(s.pages.get id).count, true⟩) ∧
      (∀ i, t.slot i = { s.slot i with powerUp := (t.slot i).powerUp } ∧ (t.slot i).jobCell = none) ∧
      t.warm = s.warm ∧ t.budget = s.budget ∧ t.sync = s.sync ∧ t.router.maps = s.router.maps ∧
      (∀ i, t.router.pendingMaps.get i = none) ∧ t.router.restartHold = false ∧ t.router.chordFreeze = false ∧
      t.router.chordTimer = 0 ∧ t.router.chordLatch = s.router.chordLatch ∧
      t.bus = { s.bus with queue := keptRequests s.bus.queue } ∧ t.credit.setup = s.credit.setup ∧
      t.ho.active = none ∧ t.ho.waiting = none) ∧
  (∀ (s : State) (v : Word) (n : Nat) (due : Stamp) (q : BusRequest) (rest : List BusRequest), v.getLsbD 0 = true →
    s.intake.restarting = false → s.bus.phase = .polling n due → 0x80000000 ≤ (s.sync.mtick - due).toNat →
    s.bus.stopping = false → s.bus.queue = q :: rest → q.isLoad = false → 32 ≤ q.addr →
    ∃ t, exec (.softRestart v) s = .next t ∧ t.readRegister .control = 0 ∧ (∀ c, t.cell c = .free) ∧
      t.intake.list = [] ∧ (∀ id, t.pages.get id = ⟨(s.pages.get id).count, true⟩) ∧
      t.bus = { s.bus with
        queue := keptRequests rest, phase := .idle, recovery := some (q.slot, s.sync.mtick + 240000) }) ∧
  (∀ (s : State) (v : Word), v.getLsbD 0 = true → s.intake.restarting = false →
    (s.bus.phase = .idle ∨ ∃ q rest, s.bus.queue = q :: rest ∧ q.isLoad = true) → s.bus.stopping = false →
    (s.ho.phase = .quiet ∨ s.ho.phase = .fadeIn ∨ s.ho.kind = .fallback ∨ s.ho.kind = .recovery →
      ∃ t, exec (.softRestart v) s = .next t ∧ t.ho = { s.ho with active := none, waiting := none } ∧
        t.raster = s.raster ∧ t.audio = s.audio ∧ t.credit = s.credit ∧ t.router.driven = s.router.driven) ∧
    (∀ src, s.ho.kind = .requested → (s.ho.phase = .fadeOut ∨ s.ho.phase = .release) → s.ho.onAir = some src →
      s.ho.outgoing = some src → HeardAt s src →
      ∃ t, exec (.softRestart v) s = .next t ∧
        t.ho = { s.ho with
          phase := .fadeIn, outgoing := none, target := some src, active := none, waiting := none,
          releaseTimer := none, cancelled := true } ∧
        t.raster = { s.raster with releaseOrder := none, cutArm := none } ∧
        t.audio = { s.audio with target := levelFormula s.audio.master (s.audio.ratios.get src) s.audio.floor } ∧
        t.credit = (match src with
          | .menu => s.credit
          | .slot i => if s.ho.outgoingFeed then { s.credit with feed := s.credit.feed.set i true } else s.credit) ∧
        t.router.driven = (match src with
          | .menu => none
          | .slot i => some i) ∧
        LeavesPowerUps s t) ∧
    (s.ho.kind = .requested → s.ho.phase.beforeCut = true →
      ∃ t, exec (.softRestart v) s = .next t ∧
        t.ho = { s.ho with
          phase := if (s.record .menu).stable then .glide else .waitTarget, kind := .fallback, target := some .menu,
          lastFallback := .restart, active := none, waiting := none, cutFeed := false, carry := 0 } ∧
        t.raster = { s.raster with cutArm := none } ∧ t.audio = s.audio ∧ t.credit = s.credit ∧
        t.router.driven = s.router.driven ∧ LeavesPowerUps s t))

/-- A soft restart that finds a READ or WRITE transaction in flight, or an acknowledge poll in progress, stays in
progress (R17, R63); it ends when the transaction has stopped, every page marked, the request gone, and a recovery
interval of 10 ms from the STOP begun for a write that had sent a data byte (R50), here outside the descriptor bytes. A
poll in progress runs to its outcome: the write has succeeded at an acknowledge and timed out at the 10th poll, with no
recovery interval, and is stopped otherwise. That a poll is in progress from its ms tick to its outcome, that the 10th
ends as a timeout, and that SOFT_RESTART_END stands for an unacknowledged one is the model's choice (assumption 29). -/
def Obligations.SoftRestartWaitsForBus : Prop :=
  (∀ (s : State) (v : Word) (q : BusRequest) (rest : List BusRequest), v.getLsbD 0 = true →
    s.intake.restarting = false → s.bus.queue = q :: rest → q.isLoad = false →
    (s.bus.phase = .reading ∨ s.bus.phase = .writing ∨
      ∃ n due, s.bus.phase = .polling n due ∧ (s.sync.mtick - due).toNat < 0x80000000) →
    ∃ t, exec (.softRestart v) s = .next t ∧ t.readRegister .control = 1 ∧ t.bus.stopping = true ∧
      t.bus.phase = s.bus.phase ∧ t.bus.queue = q :: keptRequests rest ∧ (∀ c, t.cell c = .free) ∧
      t.intake.list = []) ∧
  (∀ (s : State) (b : Bool) (q : BusRequest) (rest : List BusRequest), s.intake.restarting = true →
    s.bus.stopping = true → s.bus.queue = q :: rest → (∀ n due, s.bus.phase ≠ .polling n due) →
    (q.kind = .read ∨ 32 ≤ q.addr) →
    ∃ t, exec (.softRestartEnd b) s = .next t ∧ t.readRegister .control = 0 ∧ t.bus.queue = rest ∧
      t.bus.phase = .idle ∧ t.bus.stopping = false ∧
      t.bus.recovery = (if q.kind = .write ∧ b = true then some (q.slot, s.sync.mtick + 240000) else s.bus.recovery) ∧
      t.intake = { s.intake with restarting := false } ∧ t.router.restartHold = false ∧
      (∀ id, t.pages.get id = ⟨(s.pages.get id).count, true⟩) ∧
      t = { s with intake := t.intake, bus := t.bus, pages := t.pages, router := t.router }) ∧
  (∀ (s : State) (q : BusRequest) (rest : List BusRequest) (n : Nat) (due : Stamp) (acknowledged : Bool),
    s.intake.restarting = true → s.bus.stopping = true → s.bus.queue = q :: rest → s.bus.phase = .polling n due →
    (s.sync.mtick - due).toNat < 0x80000000 → 32 ≤ q.addr →
    ∀ command : Instr,
      command = .ackPoll acknowledged ∨ acknowledged = false ∧ (∃ b, command = .softRestartEnd b) ∨
        acknowledged = false ∧ 9 ≤ n ∧ command = .writeTimeout →
      ∃ t, exec command s = .next t ∧ t.readRegister .control = 0 ∧
        t.bus = { s.bus with
          queue := rest, phase := .idle, stopping := false,
          recovery := if acknowledged = true ∨ 9 ≤ n then s.bus.recovery
            else some (q.slot, s.sync.mtick + 240000) } ∧
        t.intake = { s.intake with restarting := false } ∧ t.router.restartHold = false ∧
        (∀ id, t.pages.get id = ⟨(s.pages.get id).count, true⟩) ∧
        t = { s with intake := t.intake, bus := t.bus, pages := t.pages, router := t.router })

/-- The update of a page (R13, R14): its start clears the mark, makes the count odd and writes it; its end makes the
count even, writes it and sets the page's NOTICE bit. Every other word of the page is written at the start, while the
count is odd: the spec lets each be written at any time of the update, and this instant is the model's choice
(assumption 27). A slot's page shows its state, flags, reason, descriptor, restarts, measurement, credit, map and ratio
at the words of section 1.8, 0 in the descriptor's fields without a copy (R20); page 0 shows the monitor window and 0
in the fields that only a slot has (R15); the cabinet page shows the hand-over, raster, inputs, credit, supply, bus,
intake fault and levels. A source's record keeps the P and L that its page now shows (R80). Every word outside the page
is as before. -/
def Obligations.PageUpdateWrites : Prop :=
  ∀ (s : State) (id : PageId), s.window.wf = true →
    ((s.pages.get id).mark = true → (s.pages.get id).count.getLsbD 0 = false →
      ∃ t, exec (.pageUpdateStart id) s = .next t ∧ t.pages.get id = ⟨(s.pages.get id).count + 1, false⟩ ∧
        t.readMem (pageBase id) = (s.pages.get id).count + 1 ∧
        (∀ k, k < 63 → t.readMem (pageBase id + 1 + k) = (s.pageWords id).getD k 0) ∧
        (∀ a, a < pageBase id ∨ pageBase id + 64 ≤ a → t.readMem a = s.readMem a) ∧
        (∀ other, other ≠ id → t.pages.get other = s.pages.get other) ∧
        (∀ i, id = .source (.slot i) → ShowsSlot s t i) ∧ (id = .source .menu → ShowsMenu s t) ∧
        (id = .cabinet → ShowsCabinet s t) ∧
        t.sync = (match id with
          | .source src =>
            { s.sync with records := s.sync.records.set src { s.record src with
                shownP := (s.record src).p, shownL := (s.record src).l } }
          | .cabinet => s.sync) ∧
        t = { s with window := t.window, pages := t.pages, sync := t.sync }) ∧
    ((s.pages.get id).count.getLsbD 0 = true →
      ∃ t, exec (.pageUpdateEnd id) s = .next t ∧
        t.pages.get id = ⟨(s.pages.get id).count + 1, (s.pages.get id).mark⟩ ∧
        t.readMem (pageBase id) = (s.pages.get id).count + 1 ∧
        (∀ a, a ≠ pageBase id → t.readMem a = s.readMem a) ∧
        t.intake = { s.intake with notice := s.intake.notice ||| (1#16 <<< pageNotice id) } ∧
        (∀ other, other ≠ id → t.pages.get other = s.pages.get other) ∧
        t = { s with window := t.window, pages := t.pages, intake := t.intake })

/-! ### Jobs of the intake, the hand-over controller and the slot manager -/

/-- A word 0 that is no kind and a SETUP group above 4 are completed by the intake at the take (R9, R10, R12). -/
def Obligations.TakeErrorsComplete : Prop :=
  ∀ (s : State) (j : Job), s.window.wf = true → s.headJob = some j →
    ((j.word 0 < 1 ∨ 10 < j.word 0) → ∃ t, exec .unknownKind s = .next t ∧
      EndsAtTake s t j .unknownKind (j.word 0) [] ∧
      t = { s with window := t.window, intake := t.intake, pages := t.pages }) ∧
    (j.word 0 = 7 → 4 < j.word 2 → ∃ t, exec .setupBadGroup s = .next t ∧ EndsAtTake s t j .badParam 2 [] ∧
      t = { s with window := t.window, intake := t.intake, pages := t.pages })

/-- A SWITCH taken in QUIET with no source on air (R102 to R104, R108, R109, R39): the job waits and the hand-over
starts from HOLD, in GLIDE onto a target that is ready and in WAIT_TARGET onto one that is not, a LOST slot among them;
a cold target that is OFF is powered for it, one that is COOLING gets the controller as a requester; the pin flag pins
the target slot. With any source on air, a job refused by its checks, and one whose target is on air already (word 17
0x8000), completes at once. -/
def Obligations.SwitchFromHold : Prop :=
  ∀ (s : State) (j : Job), NextJob s j 1 → s.ho.phase = .quiet →
    (∀ target : Source, Source.ofNumber (j.word 2) = some target → s.ho.onAir = none →
      let started (p : Phase) (cold : Bool) : HandOver := { s.ho with
        phase := p, kind := .requested, outgoing := none, target := some target,
        active := some ⟨j.cell, target, j.word 3, j.bit 4 0, j.bit 4 1, j.bit 4 2⟩, frames := 0, rough := false,
        cold := cold, fromHold := true, evicted := 0, cutFeed := j.bit 4 0, carry := j.word 3, cancelled := false }
      (∀ p, Reaches s target p →
        ∃ t, exec .switch s = .next t ∧ WaitsWithOwner s t j ∧ t.ho = started p false ∧
          t.raster = { s.raster with cutArm := none } ∧ PinsTarget s t target (j.bit 4 2) ∧
          t = { s with intake := t.intake, pages := t.pages, ho := t.ho, raster := t.raster, slots := t.slots }) ∧
      (∀ i d, target = .slot i → (s.slot i).state = .off → (s.slot i).powerUp = none → s.copy i = some d →
        s.draw + d.drawClass ≤ s.budget →
        ∃ t, exec .switch s = .next t ∧ WaitsWithOwner s t j ∧ t.ho = started .waitTarget true ∧
          t.raster = { s.raster with cutArm := none } ∧
          t.slot i = { s.slot i with
            state := .settling, settle := some (d.settle * 10), start := none, grace := none, cool := none,
            overCount := 0, restarts := d.allowance, pinned := (s.slot i).pinned || j.bit 4 2,
            powerUp := some ⟨none, some (j.bit 4 1), false, 0⟩ } ∧
          (∀ k, k ≠ i → t.slot k = s.slot k) ∧ t.warm = i :: s.warm.erase i ∧ t.supplyOn i = true ∧
          t.resetAsserted i = true ∧ t.draw = s.draw + d.drawClass ∧
          t = { s with
            intake := t.intake, pages := t.pages, ho := t.ho, raster := t.raster, slots := t.slots, warm := t.warm }) ∧
      (∀ i d, target = .slot i → (s.slot i).state = .cooling → s.copy i = some d →
        ∃ t, exec .switch s = .next t ∧ WaitsWithOwner s t j ∧ t.ho = started .waitTarget true ∧
          t.raster = { s.raster with cutArm := none } ∧
          t.slot i = { s.slot i with
            restarts := d.allowance, pinned := (s.slot i).pinned || j.bit 4 2,
            powerUp := some { (s.slot i).powerUp.getD ⟨none, none, false, 0⟩ with handOver := some (j.bit 4 1) } } ∧
          (∀ k, k ≠ i → t.slot k = s.slot k) ∧
          t = { s with intake := t.intake, pages := t.pages, ho := t.ho, raster := t.raster, slots := t.slots })) ∧
    (s.raster.cutArm = none → ∀ (r : Result) (detail : Nat),
      (Source.ofNumber (j.word 2) = none ∧ r = .badParam ∧ detail = 2 ∨
        ∃ i, Source.ofNumber (j.word 2) = some (.slot i) ∧ s.ho.onAir ≠ some (.slot i) ∧
          ((s.slot i).state = .empty ∧ r = .noBoard ∧ detail = 0 ∨
            (s.slot i).state = .loading ∧ (s.slot i).powerUp = none ∧ r = .noBoard ∧ detail = 0 ∨
            (s.slot i).state = .undescribed ∧ r = .undescribed ∧ detail = (s.bus.undescribed.get i).detail ∨
            (s.slot i).state = .fault ∧ r = .targetFailed ∧ detail = 2 ∨
            (s.slot i).state = .running ∧ s.fitsMonitor (.slot i) = false ∧ r = .outOfRange ∧
              detail = (s.record (.slot i)).lastP ∨
            (s.slot i).state = .off ∧ s.budget < s.draw + s.drawClass i ∧ j.bit 4 1 = false ∧ r = .noBudget ∧
              detail = s.draw)) →
      ∃ t, exec .switch s = .next t ∧ EndsAtTake s t j r detail [] ∧
        t = { s with window := t.window, intake := t.intake, pages := t.pages }) ∧
    (s.raster.cutArm = none → ∀ src, s.ho.onAir = some src → Source.ofNumber (j.word 2) = some src →
      ∃ t, exec .switch s = .next t ∧ EndsAtTake s t j .ok 0x8000 [src.number, 0, 0, 0] ∧
        PinsTarget s t src (j.bit 4 2) ∧
        t = { s with window := t.window, intake := t.intake, pages := t.pages, slots := t.slots })

/-- A SWITCH that finds a hand-over to make room for, or makes one (R102 to R105, R114 to R116, R126, R165, R167, R149,
R178). In QUIET, to another source than the one heard at a level above 0 with a ramp: FADE_OUT, the outgoing's feed
recorded and closed, its pending pulses returned, its pins idle and the level's target 0; the picture stays. Before the
cut, to a target that passes without a power-up: the active job ends SUPERSEDED; before release the phase goes on,
between release and cut it is judged anew for another target and goes on for the same; to the source still on air the
hand-over is cancelled (here at another level than its own, with a ramp). In FADE_IN the job waits, and one that waited
ends SUPERSEDED. That the outgoing feed of source 0 is recorded as closed is the model's choice (assumption 46). -/
def Obligations.SwitchFadesOut : Prop :=
  ∀ (s : State) (j : Job) (target : Source), NextJob s j 1 → Source.ofNumber (j.word 2) = some target →
    let job : SwitchJob := ⟨j.cell, target, j.word 3, j.bit 4 0, j.bit 4 1, j.bit 4 2⟩
    let adopted : HandOver := { s.ho with
      kind := .requested, active := some job, rough := false, cold := false, fromHold := s.ho.onAir.isNone,
      evicted := 0, cutFeed := j.bit 4 0, carry := j.word 3 }
    let warm : Prop := target = .menu ∨ ∃ i, target = .slot i ∧
      ((s.slot i).state = .running ∧ s.fitsMonitor target = true ∨ (s.slot i).state = .lost)
    (∀ src, s.ho.phase = .quiet → s.ho.onAir = some src → src ≠ target → warm → 0 < s.audio.current → 0 < s.audio.ramp →
      ∃ t, exec .switch s = .next t ∧ WaitsWithOwner s t j ∧
        t.ho = { adopted with
          phase := .fadeOut, outgoing := some src, target := some target, frames := 0, cancelled := false,
          outgoingFeed := (match src with
            | .menu => false
            | .slot i => s.credit.feed.get i) } ∧
        t.credit = (match src with
          | .menu => s.credit
          | .slot i =>
            { s.credit with
              feed := s.credit.feed.set i false, pending := s.credit.pending.set i 0,
              bank := s.credit.bank + min (s.credit.pending.get i) (9999 - s.credit.bank),
              unbanked := s.credit.unbanked +
                BitVec.ofNat 32 (s.credit.pending.get i - min (s.credit.pending.get i) (9999 - s.credit.bank)) }) ∧
        t.audio = { s.audio with target := 0 } ∧ t.raster = { s.raster with cutArm := none } ∧
        t.router = { s.router with driven := none, entries := [], activePins := 0, chordFreeze := false } ∧
        PinsTarget s t target (j.bit 4 2) ∧
        t = { s with
          intake := t.intake, pages := t.pages, ho := t.ho, raster := t.raster, slots := t.slots, credit := t.credit,
          audio := t.audio, router := t.router }) ∧
    (warm → HeldBeside s j s.ho.active → s.ho.onAir ≠ some target →
      (s.ho.phase = .fadeOut ∨ s.ho.phase = .release ∨ s.ho.phase.beforeCut = true ∧ s.ho.target = some target) →
      (s.ho.target = some target ∨ NothingPending s) →
      ∃ t, exec .switch s = .next t ∧ JobsEnd s t (s.taking j) (s.activeEnds .superseded) ∧
        t.ho = { adopted with target := some target } ∧ PinsTarget s t target (j.bit 4 2) ∧
        t = { s with window := t.window, intake := t.intake, pages := t.pages, ho := t.ho, slots := t.slots }) ∧
    (∀ p, Reaches s target p → HeldBeside s j s.ho.active → s.ho.onAir ≠ some target → s.ho.phase.beforeCut = true →
      s.ho.target ≠ some target → NothingPending s →
      ∃ t, exec .switch s = .next t ∧ JobsEnd s t (s.taking j) (s.activeEnds .superseded) ∧
        t.ho = { adopted with target := some target, phase := p } ∧ t.raster = { s.raster with cutArm := none } ∧
        PinsTarget s t target (j.bit 4 2) ∧
        t = { s with
          window := t.window, intake := t.intake, pages := t.pages, ho := t.ho, raster := t.raster,
          slots := t.slots }) ∧
    (HeardAt s target → HeldBeside s j s.ho.active → NothingPending s → s.ho.onAir = some target →
      s.ho.outgoing = some target → (s.ho.phase = .fadeOut ∨ s.ho.phase = .release) →
      ∃ t, exec .switch s = .next t ∧ JobsEnd s t (s.taking j) (s.activeEnds .superseded) ∧
        t.ho = { adopted with
          phase := .fadeIn, outgoing := none, target := some target, releaseTimer := none, cancelled := true } ∧
        GivenBack s t target ∧ PinsTarget s t target (j.bit 4 2) ∧
        t = { s with
          window := t.window, intake := t.intake, pages := t.pages, ho := t.ho, raster := t.raster, slots := t.slots,
          credit := t.credit, audio := t.audio, router := t.router }) ∧
    (s.ho.phase = .fadeIn → HeldBeside s j s.ho.waiting →
      ∃ t, exec .switch s = .next t ∧ JobsEnd s t (s.taking j) (s.waitingEnds .superseded) ∧
        t.ho = { s.ho with waiting := some job } ∧
        t = { s with window := t.window, intake := t.intake, pages := t.pages, ho := t.ho })

/-- An ABORT by the phase at its take (R115, R117, R118, R126): nothing to abort in QUIET; in FADE_IN too late, a
waiting job ABORTED; before release the active job ABORTED and the hand-over cancelled (here with the source on air
heard at another level than its own, with a ramp); between release and cut the active job ABORTED, and a usable
outgoing the target again, else a FALLBACK to source 0 that withdraws from the target's pending power-up. That an
outgoing that failed by R123 and is RUNNING again is usable, with the outgoing feed of before, is the model's choice
(assumption 43). -/
def Obligations.AbortByPhase : Prop :=
  ∀ (s : State) (j : Job), NextJob s j 2 →
    (s.ho.phase = .quiet → ∃ t, exec .abort s = .next t ∧ EndsAtTake s t j .nothingToAbort 0 [] ∧
      t = { s with window := t.window, intake := t.intake, pages := t.pages }) ∧
    (s.ho.phase = .fadeIn → HeldBeside s j s.ho.waiting →
      ∃ t, exec .abort s = .next t ∧
        JobsEnd s t (s.taking j) (s.waitingEnds .aborted ++ [⟨j.cell, .tooLate, 0, []⟩]) ∧
        t.ho = { s.ho with waiting := none } ∧
        t = { s with window := t.window, intake := t.intake, pages := t.pages, ho := t.ho }) ∧
    (∀ src, (s.ho.phase = .fadeOut ∨ s.ho.phase = .release) → s.ho.onAir = some src → s.ho.outgoing = some src →
      HeardAt s src → HeldBeside s j s.ho.active → NothingPending s →
      ∃ t, exec .abort s = .next t ∧
        JobsEnd s t (s.taking j) (s.activeEnds .aborted ++ [⟨j.cell, .ok, src.number, []⟩]) ∧
        t.ho = { s.ho with
          phase := .fadeIn, kind := .requested, outgoing := none, target := some src, active := none,
          releaseTimer := none, cancelled := true } ∧
        GivenBack s t src ∧
        t = { s with
          window := t.window, intake := t.intake, pages := t.pages, ho := t.ho, raster := t.raster, credit := t.credit,
          audio := t.audio, router := t.router }) ∧
    (s.ho.phase.beforeCut = true → HeldBeside s j s.ho.active →
      (∀ src, s.ho.outgoing = some src → Ready s src → s.fitsMonitor src = true →
        (s.ho.target = some src ∨ NothingPending s) →
        ∃ t, exec .abort s = .next t ∧
          JobsEnd s t (s.taking j) (s.activeEnds .aborted ++ [⟨j.cell, .ok, src.number, []⟩]) ∧
          t.ho = { s.ho with
            phase := .glide, kind := .requested, target := some src, active := none, cutFeed := s.ho.outgoingFeed,
            carry := 0 } ∧
          t.raster = { s.raster with cutArm := none } ∧
          t = { s with window := t.window, intake := t.intake, pages := t.pages, ho := t.ho, raster := t.raster }) ∧
      ((∀ src, s.ho.outgoing = some src → ¬ (Ready s src ∧ s.fitsMonitor src = true)) →
        ∃ t, exec .abort s = .next t ∧
          JobsEnd s t (s.taking j) (s.activeEnds .aborted ++ [⟨j.cell, .ok, 0, []⟩]) ∧
          t.ho = { s.ho with
            phase := if (s.record .menu).stable then .glide else .waitTarget, kind := .fallback, target := some .menu,
            lastFallback := .none, active := none, cutFeed := false, carry := 0 } ∧
          t.raster = { s.raster with cutArm := none } ∧ WithdrawsTarget s t ∧
          t = { s with
            window := t.window, intake := t.intake, pages := t.pages, ho := t.ho, raster := t.raster,
            slots := t.slots }))

/-- POWER OFF (R41, R34, R38, R40): a powered slot that is not involved goes to COOLING with its cool timer, out of the
warm list and the draw, and the job completes OK; an involved slot refuses OFF and CYCLE with IN_USE (R41, R43). -/
def Obligations.PowerOffResult : Prop :=
  ∀ (s : State) (j : Job) (i : Slot), NextJob s j 3 → Slot.ofNumber (j.word 2) = some i →
    (j.word 3 = 0 → s.involved i = false → (s.slot i).state.powered = true → (s.slot i).jobCell = none →
      ∃ t, exec .powerOff s = .next t ∧ EndsAtTake s t j .ok 0 [9, 0, t.draw] ∧
        t.slot i = { s.slot i with
          state := .cooling, settle := none, start := none, grace := none,
          cool := some (s.figure i Descriptor.cool * 100), powerUp := none } ∧
        (∀ k, k ≠ i → t.slot k = s.slot k) ∧ t.warm = s.warm.erase i ∧ t.supplyOn i = false ∧
        t.resetAsserted i = true ∧ t.draw + s.drawClass i = s.draw ∧
        t = { s with window := t.window, intake := t.intake, pages := t.pages, slots := t.slots, warm := t.warm }) ∧
    (s.involved i = true →
      (j.word 3 = 0 → ∃ t, exec .powerOff s = .next t ∧ EndsAtTake s t j .inUse 0 [(s.slot i).state.code, 0, s.draw] ∧
        t = { s with window := t.window, intake := t.intake, pages := t.pages }) ∧
      (j.word 3 = 2 → ∃ t, exec .powerCycle s = .next t ∧
        EndsAtTake s t j .inUse 0 [(s.slot i).state.code, 0, s.draw] ∧
        t = { s with window := t.window, intake := t.intake, pages := t.pages }))

/-- POWER ON (R42, R27 to R30, R134): an OFF slot whose class fits the budget settles at once, at the head of the warm
list, with its restarts reloaded and the job waiting; one that fits by eviction does so once the evictable slots from
the warm list's tail, up to the first with which it fits, are COOLING and out of the draw (R28, R29, R34), its power-up
keeping their mask; one that does not fit, without eviction or with every evictable slot gone, completes NO_BUDGET with
no slot evicted; a second ON completes BUSY. That a request answered NO_BUDGET at once leaves restarts left as it stood
is the model's choice (assumption 33). -/
def Obligations.PowerOnResult : Prop :=
  ∀ (s : State) (j : Job) (i : Slot), NextJob s j 3 → j.word 3 = 1 → Slot.ofNumber (j.word 2) = some i →
    (∀ d, (s.slot i).state = .off → (s.slot i).powerUp = none → s.copy i = some d → s.draw + d.drawClass ≤ s.budget →
      ∃ t, exec .powerOn s = .next t ∧ WaitsWithOwner s t j ∧
        t.slot i = { s.slot i with
          state := .settling, settle := some (d.settle * 10), start := none, grace := none, cool := none,
          overCount := 0, restarts := d.allowance, powerUp := some ⟨some (j.cell, j.bit 4 0), none, false, 0⟩ } ∧
        (∀ k, k ≠ i → t.slot k = s.slot k) ∧ t.warm = i :: s.warm.erase i ∧ t.supplyOn i = true ∧
        t.resetAsserted i = true ∧ t.draw = s.draw + d.drawClass ∧
        t = { s with intake := t.intake, pages := t.pages, slots := t.slots, warm := t.warm }) ∧
    (∀ d vs, (s.slot i).state = .off → (s.slot i).powerUp = none → s.copy i = some d → j.bit 4 0 = true → s.warm.Nodup →
      s.budget < s.draw + d.drawClass → EvictsFor s i vs →
      ∃ t, exec .powerOn s = .next t ∧ WaitsWithOwner s t j ∧
        (∀ n, n < 16 → ((t.slot i).mask.getLsbD n = true ↔ ∃ v, v ∈ vs ∧ v.number = n)) ∧
        t.slot i = { s.slot i with
          state := .settling, settle := some (d.settle * 10), start := none, grace := none, cool := none,
          overCount := 0, restarts := d.allowance, powerUp := some ⟨some (j.cell, true), none, false, (t.slot i).mask⟩ } ∧
        (∀ v, v ∈ vs → t.slot v = { s.slot v with
          state := .cooling, settle := none, start := none, grace := none,
          cool := some (s.figure v Descriptor.cool * 100), powerUp := none }) ∧
        (∀ k, k ≠ i → k ∉ vs → t.slot k = s.slot k) ∧
        t.warm = i :: (s.warm.filter fun k => decide (k ∉ vs)).erase i ∧
        t.draw + s.classSum vs = s.draw + d.drawClass ∧
        t = { s with intake := t.intake, pages := t.pages, slots := t.slots, warm := t.warm }) ∧
    ((s.slot i).state = .off → (s.slot i).powerUp = none →
      (j.bit 4 0 = false ∧ s.budget < s.draw + s.drawClass i ∨
        s.warm.Nodup ∧ s.budget + s.classSum s.evictable < s.draw + s.drawClass i) →
      ∃ t, exec .powerOn s = .next t ∧ EndsAtTake s t j .noBudget s.draw [3, 0, s.draw] ∧
        t = { s with window := t.window, intake := t.intake, pages := t.pages }) ∧
    ((s.slot i).jobCell.isSome = true →
      ∃ t, exec .powerOn s = .next t ∧ EndsAtTake s t j .busy 0 [(s.slot i).state.code, 0, s.draw] ∧
        t = { s with window := t.window, intake := t.intake, pages := t.pages })

/-- POWER CYCLE of a RUNNING slot that is not involved (R43, R34, R134): COOLING with the job as the requester of its
pending power-up and the restarts reloaded; the job waits. -/
def Obligations.PowerCycleRunning : Prop :=
  ∀ (s : State) (j : Job) (i : Slot) (d : Descriptor), NextJob s j 3 → j.word 3 = 2 →
    Slot.ofNumber (j.word 2) = some i → s.involved i = false → (s.slot i).state = .running →
    (s.slot i).powerUp = none → s.copy i = some d →
    ∃ t, exec .powerCycle s = .next t ∧ WaitsWithOwner s t j ∧
      t.slot i = { s.slot i with
        state := .cooling, settle := none, start := none, grace := none, cool := some (d.cool * 100),
        restarts := d.allowance, powerUp := some ⟨some (j.cell, j.bit 4 0), none, false, 0⟩ } ∧
      (∀ k, k ≠ i → t.slot k = s.slot k) ∧ t.warm = s.warm.erase i ∧ t.draw + d.drawClass = s.draw ∧
      t = { s with intake := t.intake, pages := t.pages, slots := t.slots, warm := t.warm }

/-- PIN and UNPIN (R39, R40): the flag takes the value asked for in every state but EMPTY, where the job completes
NO_BOARD. -/
def Obligations.PinAndUnpin : Prop :=
  ∀ (s : State) (j : Job) (i : Slot) (b : Bool), NextJob s j 3 → Slot.ofNumber (j.word 2) = some i →
    j.word 3 = (if b then 3 else 4) →
    let command : Instr := if b then .pin else .unpin
    ((s.slot i).state ≠ .empty → ∃ t, exec command s = .next t ∧
      EndsAtTake s t j .ok 0 [(s.slot i).state.code, 0, s.draw] ∧ t.slot i = { s.slot i with pinned := b } ∧
      (∀ k, k ≠ i → t.slot k = s.slot k) ∧
      t = { s with window := t.window, intake := t.intake, pages := t.pages, slots := t.slots }) ∧
    ((s.slot i).state = .empty → ∃ t, exec command s = .next t ∧ EndsAtTake s t j .noBoard 0 [0, 0, s.draw] ∧
      t = { s with window := t.window, intake := t.intake, pages := t.pages })

/-- SETUP SUPPLY (R37): a budget of 1 to 120 that is not below the powered draw is taken; any other is refused with the
draw as detail and the budget in force as word 18. -/
def Obligations.SupplyBudgetSet : Prop :=
  ∀ (s : State) (j : Job), NextJob s j 7 → j.word 2 = 4 →
    (1 ≤ j.word 3 → j.word 3 ≤ 120 → s.draw ≤ j.word 3 →
      ∃ t, exec .setupSupply s = .next t ∧ EndsAtTake s t j .ok 0 [j.word 3, s.draw] ∧ t.budget = j.word 3 ∧
        t.pages.cabinet.mark = true ∧
        t = { s with window := t.window, intake := t.intake, pages := t.pages, budget := t.budget }) ∧
    (j.word 3 < 1 ∨ 120 < j.word 3 ∨ j.word 3 < s.draw →
      ∃ t, exec .setupSupply s = .next t ∧ EndsAtTake s t j .badParam s.draw [s.budget] ∧
        t = { s with window := t.window, intake := t.intake, pages := t.pages })

/-! ### Jobs of the control router, the credit unit, the audio unit and the raster generator -/

/-- LOAD_MAP in an admitted state and the installation of a pending map (R145 to R148, R154): a map that fails its
checks completes BAD_MAP; one that passes replaces the map at the take when the slot is not on air, and becomes the
pending map when it is; at the scan it is installed with the slot's entry states reset; a replacement marks the source
page. -/
def Obligations.ControlMapLoad : Prop :=
  ∀ (s : State) (i : Slot),
    (∀ j : Job, NextJob s j 4 → Slot.ofNumber (j.word 2) = some i →
      (s.slot i).state ∉ [SlotState.empty, .loading, .undescribed] → s.router.pendingMaps.get i = none →
      (∀ detail, s.stagedMap i (s.figure i Descriptor.pinCount) = .inl detail →
        ∃ t, exec .loadMap s = .next t ∧ EndsAtTake s t j .badMap detail [] ∧
          t = { s with window := t.window, intake := t.intake, pages := t.pages }) ∧
      (∀ m, s.stagedMap i (s.figure i Descriptor.pinCount) = .inr m →
        (s.ho.onAir ≠ some (.slot i) → s.router.driven ≠ some i →
          ∃ t, exec .loadMap s = .next t ∧ EndsAtTake s t j .ok 0 [m.entries.length, m.label.toNat] ∧
            t.router = { s.router with maps := s.router.maps.set i m } ∧
            (t.pages.get (.source (.slot i))).mark = true ∧
            t = { s with window := t.window, intake := t.intake, pages := t.pages, router := t.router }) ∧
        (s.ho.onAir = some (.slot i) →
          ∃ t, exec .loadMap s = .next t ∧ WaitsWithOwner s t j ∧
            t.router = { s.router with pendingMaps := s.router.pendingMaps.set i (some (m, j.cell)) } ∧
            t = { s with intake := t.intake, pages := t.pages, router := t.router }))) ∧
    (∀ (m : ControlMap) (c : CellNo), s.window.wf = true → s.router.pendingMaps.get i = some (m, c) →
      s.cell c = .taken →
      ∃ t, exec (.mapInstall i) s = .next t ∧ CompletesCell s t c .ok 0 [m.entries.length, m.label.toNat] ∧
        (s.router.driven = some i → t.router.entries = resetEntries s.router.inputs m.entries) ∧
        (s.router.driven ≠ some i → t.router.entries = s.router.entries) ∧
        t.router = { s.router with
          maps := s.router.maps.set i m, pendingMaps := s.router.pendingMaps.set i none, entries := t.router.entries,
          activePins := t.router.activePins } ∧
        (t.pages.get (.source (.slot i))).mark = true ∧
        t = { s with window := t.window, intake := t.intake, pages := t.pages, router := t.router })

/-- GRANT and WITHDRAW (R171): an amount of 1 to 9999 moves as many units as the bank has room for or holds; any other
amount completes BAD_PARAM with detail 3. -/
def Obligations.GrantAndWithdraw : Prop :=
  ∀ (s : State) (j : Job), NextJob s j 5 →
    (1 ≤ j.word 3 → j.word 3 ≤ 9999 →
      (j.word 2 = 0 → ∃ t, exec .creditGrant s = .next t ∧
        t.credit = { s.credit with
          bank := s.credit.bank + min (j.word 3) (9999 - s.credit.bank),
          granted := s.credit.granted + BitVec.ofNat 32 (min (j.word 3) (9999 - s.credit.bank)) } ∧
        EndsAtTake s t j .ok 0 [min (j.word 3) (9999 - s.credit.bank), t.credit.bank] ∧
        t = { s with window := t.window, intake := t.intake, pages := t.pages, credit := t.credit }) ∧
      (j.word 2 = 1 → ∃ t, exec .creditWithdraw s = .next t ∧
        t.credit = { s.credit with
          bank := s.credit.bank - min (j.word 3) s.credit.bank,
          withdrawn := s.credit.withdrawn + BitVec.ofNat 32 (min (j.word 3) s.credit.bank) } ∧
        EndsAtTake s t j .ok 0 [min (j.word 3) s.credit.bank, t.credit.bank] ∧
        t = { s with window := t.window, intake := t.intake, pages := t.pages, credit := t.credit })) ∧
    ((j.word 3 < 1 ∨ 9999 < j.word 3) →
      (j.word 2 = 0 → ∃ t, exec .creditGrant s = .next t ∧ EndsAtTake s t j .badParam 3 [] ∧
        t = { s with window := t.window, intake := t.intake, pages := t.pages }) ∧
      (j.word 2 = 1 → ∃ t, exec .creditWithdraw s = .next t ∧ EndsAtTake s t j .badParam 3 [] ∧
        t = { s with window := t.window, intake := t.intake, pages := t.pages }))

/-- DELIVER (R172): with a slot on air in QUIET, units move from the bank to its pending pulses, bounded by the bank and
the room below the pulse cap; otherwise the job completes NOT_ON_AIR. -/
def Obligations.CreditDelivery : Prop :=
  ∀ (s : State) (j : Job), NextJob s j 5 → j.word 2 = 2 → 1 ≤ j.word 3 → j.word 3 ≤ 9999 →
    (∀ (i : Slot) (d : Descriptor), s.ho.phase = .quiet → s.ho.onAir = some (.slot i) → s.copy i = some d →
      let n := min (j.word 3) (min s.credit.bank (d.pulseCap - s.credit.pending.get i))
      ∃ t, exec .creditDeliver s = .next t ∧ EndsAtTake s t j .ok 0 [n, s.credit.bank - n] ∧
        t.credit = { s.credit with
          bank := s.credit.bank - n, pending := s.credit.pending.set i (s.credit.pending.get i + n) } ∧
        t = { s with window := t.window, intake := t.intake, pages := t.pages, credit := t.credit }) ∧
    ((s.ho.phase ≠ .quiet ∨ ∀ i, s.ho.onAir ≠ some (.slot i)) →
      ∃ t, exec .creditDeliver s = .next t ∧ EndsAtTake s t j .notOnAir 0 [] ∧
        t = { s with window := t.window, intake := t.intake, pages := t.pages })

/-- RECALL (R173): the slot's pending pulses become 0, each unit going to the bank while it stands below 9999 and
otherwise to the unbanked total; the feed and a pulse in flight are unchanged. -/
def Obligations.CreditRecalled : Prop :=
  ∀ (s : State) (j : Job), NextJob s j 5 → j.word 2 = 3 →
    (∀ i, Slot.ofNumber (j.word 4) = some i →
      let n := s.credit.pending.get i
      ∃ t, exec .creditRecall s = .next t ∧ EndsAtTake s t j .ok 0 [n, t.credit.bank] ∧
        t.credit = { s.credit with
          bank := s.credit.bank + min n (9999 - s.credit.bank), pending := s.credit.pending.set i 0,
          unbanked := s.credit.unbanked + BitVec.ofNat 32 (n - min n (9999 - s.credit.bank)) } ∧
        t = { s with window := t.window, intake := t.intake, pages := t.pages, credit := t.credit }) ∧
    (Slot.ofNumber (j.word 4) = none → ∃ t, exec .creditRecall s = .next t ∧ EndsAtTake s t j .badParam 4 [] ∧
      t = { s with window := t.window, intake := t.intake, pages := t.pages })

/-- SET_LEVELS in QUIET with a source on air and selected (R182, R178, R179): the clamped master or floor replaces the
setting and the target follows the formula; the ratio of a source that is not on air and a ramp above 0 leave the levels
alone; an item or source out of range is refused. -/
def Obligations.LevelsSet : Prop :=
  ∀ (s : State) (j : Job) (src : Source), NextJob s j 6 → s.ho.phase = .quiet → s.audio.wanted = some src →
    s.audio.crosspoint = some src →
    let v := min (j.word 4) 255
    let clamped := if v = j.word 4 then 0 else 1
    (j.word 2 = 0 → ∃ t, exec .setLevels s = .next t ∧
      t.audio = { s.audio with
        master := v, target := levelFormula v (s.audio.ratios.get src) s.audio.floor,
        current := if s.audio.ramp = 0 then levelFormula v (s.audio.ratios.get src) s.audio.floor
          else s.audio.current } ∧
      EndsAtTake s t j .ok 0 [v, clamped, t.audio.target, t.audio.current] ∧
      t = { s with window := t.window, intake := t.intake, pages := t.pages, audio := t.audio }) ∧
    (j.word 2 = 2 → ∃ t, exec .setLevels s = .next t ∧
      t.audio = { s.audio with
        floor := v, target := levelFormula s.audio.master (s.audio.ratios.get src) v,
        current := if s.audio.ramp = 0 then levelFormula s.audio.master (s.audio.ratios.get src) v
          else s.audio.current } ∧
      EndsAtTake s t j .ok 0 [v, clamped, t.audio.target, t.audio.current] ∧
      t = { s with window := t.window, intake := t.intake, pages := t.pages, audio := t.audio }) ∧
    (∀ other, j.word 2 = 1 → Source.ofNumber (j.word 3) = some other → other ≠ src →
      ∃ t, exec .setLevels s = .next t ∧ t.audio = { s.audio with ratios := s.audio.ratios.set other v } ∧
        EndsAtTake s t j .ok 0 [v, clamped, s.audio.target, s.audio.current] ∧
        t = { s with window := t.window, intake := t.intake, pages := t.pages, audio := t.audio }) ∧
    (j.word 2 = 3 → 0 < j.word 4 → ∃ t, exec .setLevels s = .next t ∧
      t.audio = { s.audio with ramp := min (j.word 4) 64 } ∧
      EndsAtTake s t j .ok 0
        [min (j.word 4) 64, if min (j.word 4) 64 = j.word 4 then 0 else 1, s.audio.target, s.audio.current] ∧
      t = { s with window := t.window, intake := t.intake, pages := t.pages, audio := t.audio }) ∧
    (3 < j.word 2 → ∃ t, exec .setLevels s = .next t ∧ EndsAtTake s t j .badParam 2 [] ∧
      t = { s with window := t.window, intake := t.intake, pages := t.pages }) ∧
    (j.word 2 = 1 → Source.ofNumber (j.word 3) = none → ∃ t, exec .setLevels s = .next t ∧
      EndsAtTake s t j .badParam 3 [] ∧ t = { s with window := t.window, intake := t.intake, pages := t.pages })

/-- SETUP MONITOR that passes every check, and one refused by the phase (R98); SETUP GLIDE with every word in range,
taken at once in PASS and held pending in HOLD, and either way in place of values still pending (R99). -/
def Obligations.MonitorAndGlideSet : Prop :=
  ∀ (s : State) (j : Job), NextJob s j 7 →
    (j.word 2 = 0 → 8192 ≤ j.word 3 → j.word 4 ≤ 32752 → j.word 3 ≤ j.word 5 → j.word 5 ≤ j.word 4 →
      200 ≤ j.word 6 → j.word 6 ≤ 700 →
      (s.ho.phase ≠ .quiet → ∃ t, exec .setupMonitor s = .next t ∧ EndsAtTake s t j .inUse 1 [] ∧
        t = { s with window := t.window, intake := t.intake, pages := t.pages }) ∧
      (s.ho.phase = .quiet →
        (∀ src, s.ho.onAir = some src →
          j.word 3 ≤ (s.record src).lastP ∧ (s.record src).lastP ≤ j.word 4) →
        (s.raster.mode = .hold → j.word 3 ≤ s.raster.p ∧ s.raster.p ≤ j.word 4) →
        ∃ t, exec .setupMonitor s = .next t ∧ EndsAtTake s t j .ok 0 [j.word 3, j.word 4, j.word 5, j.word 6] ∧
          t.raster = { s.raster with
            pMin := j.word 3, pMax := j.word 4, pRest := j.word 5, lRest := j.word 6 } ∧
          (t.pages.get (.source .menu)).mark = true ∧
          t = { s with window := t.window, intake := t.intake, pages := t.pages, raster := t.raster })) ∧
    (j.word 2 = 1 → 1 ≤ j.word 3 → j.word 3 ≤ 4096 → 1 ≤ j.word 4 → j.word 4 ≤ 64 → 1 ≤ j.word 5 → j.word 5 ≤ 16 →
      10 ≤ j.word 6 → j.word 6 ≤ 1000 →
      ∃ t, exec .setupGlide s = .next t ∧ EndsAtTake s t j .ok 0 [j.word 3, j.word 4, j.word 5, j.word 6] ∧
        t.raster = (if s.raster.mode = .pass then
            { s.raster with glide := ⟨j.word 3, j.word 4, j.word 5, j.word 6⟩, pendingGlide := none }
          else { s.raster with pendingGlide := some ⟨j.word 3, j.word 4, j.word 5, j.word 6⟩ }) ∧
        t = { s with window := t.window, intake := t.intake, pages := t.pages, raster := t.raster })

/-- SETUP CHORD (R155) and SETUP COIN (R164) with every word in range: the three chord values and the seven coin values
are replaced, the chord timer becomes 0, and the latch, the freeze and a pulse being measured stand. -/
def Obligations.ChordAndCoinSet : Prop :=
  ∀ (s : State) (j : Job), NextJob s j 7 →
    (j.word 2 = 2 →
      let mask := BitVec.ofNat 32 (j.word 3 + 65536 * j.word 4)
      1 ≤ maskCount mask → maskCount mask ≤ 4 → 5 ≤ j.word 5 → j.word 5 ≤ 50 → j.word 6 ≤ 1 →
      ∃ t, exec .setupChord s = .next t ∧ EndsAtTake s t j .ok 0 [j.word 3, j.word 4, j.word 5, j.word 6] ∧
        t.router = { s.router with
          chordMask := mask, chordHold := j.word 5, chordReturn := decide (j.word 6 = 1), chordTimer := 0 } ∧
        t = { s with window := t.window, intake := t.intake, pages := t.pages, router := t.router }) ∧
    (j.word 2 = 3 → 1 ≤ j.word 3 → j.word 3 ≤ 9 → 1 ≤ j.word 4 → j.word 4 ≤ 9 → 5 ≤ j.word 5 → j.word 5 ≤ 100 →
      j.word 5 ≤ j.word 6 → j.word 6 ≤ 500 → 1 ≤ j.word 7 → j.word 7 ≤ 9999 → 20 ≤ j.word 8 → j.word 8 ≤ 255 →
      20 ≤ j.word 9 → j.word 9 ≤ 255 →
      ∃ t, exec .setupCoin s = .next t ∧
        EndsAtTake s t j .ok 0
          [j.word 3, j.word 4, j.word 5, j.word 6, j.word 7, j.word 8, j.word 9] ∧
        t.credit = { s.credit with
          setup := ⟨j.word 3, j.word 4, j.word 5, j.word 6, j.word 7, j.word 8, j.word 9⟩ } ∧
        t = { s with window := t.window, intake := t.intake, pages := t.pages, credit := t.credit })

/-! ### Jobs of the adapter bus -/

/-- EEPROM_READ and EEPROM_WRITE that pass their checks are queued at the tail with the job's cell; a write into
descriptor bytes without the operator key is refused PROTECTED (R57, R58, R51). -/
def Obligations.EepromJobsQueued : Prop :=
  ∀ (s : State) (j : Job) (i : Slot), s.window.wf = true → s.headJob = some j → Slot.ofNumber (j.word 2) = some i →
    j.word 3 ≤ 255 → 1 ≤ j.word 4 → (s.slot i).state ≠ .empty → (s.slot i).state ≠ .loading →
    (j.word 0 = 8 → j.word 4 ≤ 16 → j.word 3 + j.word 4 ≤ 256 →
      ∃ t, exec .eepromRead s = .next t ∧ WaitsWithOwner s t j ∧
        t.bus = { s.bus with queue := s.bus.queue ++ [⟨.read, i, j.word 3, j.word 4, [], [j.cell]⟩] } ∧
        t.pages.cabinet.mark = true ∧ t = { s with intake := t.intake, pages := t.pages, bus := t.bus }) ∧
    (j.word 0 = 9 → j.word 4 ≤ 8 → j.word 3 % 8 + j.word 4 ≤ 8 →
      (32 ≤ j.word 3 ∨ s.router.operatorKey = true →
        ∃ t, exec .eepromWrite s = .next t ∧ WaitsWithOwner s t j ∧
          t.bus = { s.bus with queue := s.bus.queue ++
            [⟨.write, i, j.word 3, j.word 4,
              (unpackWords [j.word 5, j.word 6, j.word 7, j.word 8]).take (j.word 4), [j.cell]⟩] } ∧
          t.pages.cabinet.mark = true ∧ t = { s with intake := t.intake, pages := t.pages, bus := t.bus }) ∧
      (j.word 3 < 32 → s.router.operatorKey = false →
        ∃ t, exec .eepromWrite s = .next t ∧ EndsAtTake s t j .protect 0 [] ∧
          t = { s with window := t.window, intake := t.intake, pages := t.pages }))

/-- RELOAD by the slot's state (R61, R52, R53, R66, R25): queued from OFF and UNDESCRIBED with the copy and the record
cleared and the slot in LOADING, attached to the standing request in LOADING, refused elsewhere. -/
def Obligations.ReloadByState : Prop :=
  ∀ (s : State) (j : Job) (i : Slot), NextJob s j 10 → Slot.ofNumber (j.word 2) = some i →
    ((s.slot i).state = .off ∨ (s.slot i).state = .undescribed →
      ∃ t, exec .reload s = .next t ∧ WaitsWithOwner s t j ∧
        t.bus = { s.bus with
          queue := s.bus.queue ++ [⟨.reload, i, 0, 32, [], [j.cell]⟩], copies := s.bus.copies.set i none } ∧
        t.slots = s.slots.set i { s.slot i with state := .loading } ∧
        t.sync = { s.sync with records := s.sync.records.set (.slot i) (SyncRec.blank .empty) } ∧
        (t.pages.get (.source (.slot i))).mark = true ∧ t.pages.cabinet.mark = true ∧
        t = { s with intake := t.intake, pages := t.pages, bus := t.bus, slots := t.slots, sync := t.sync }) ∧
    ((s.slot i).state = .loading →
      ∃ t, exec .reload s = .next t ∧ WaitsWithOwner s t j ∧
        t.bus = { s.bus with queue := s.bus.queue.map fun q =>
          if (q.kind = .autoload ∨ q.kind = .reload) ∧ q.slot = i then { q with cells := q.cells ++ [j.cell] }
          else q } ∧
        t = { s with intake := t.intake, pages := t.pages, bus := t.bus }) ∧
    ((s.slot i).state = .empty →
      ∃ t, exec .reload s = .next t ∧ EndsAtTake s t j .noBoard 0 [] ∧
        t = { s with window := t.window, intake := t.intake, pages := t.pages }) ∧
    ((s.slot i).state.powered = true ∨ (s.slot i).state = .cooling ∨ (s.slot i).state = .fault →
      ∃ t, exec .reload s = .next t ∧ EndsAtTake s t j .inUse 0 [] ∧
        t = { s with window := t.window, intake := t.intake, pages := t.pages })

/-! ### The slots -/

/-- Presence brings an EMPTY slot to LOADING with an AUTOLOAD request at the tail of the queue (R22, R25, R66). That the
command also moves the presence line as the model holds it, pins.presence, is the model's choice (assumption 3). -/
def Obligations.PresenceStartsLoad : Prop :=
  ∀ (s : State) (i : Slot), (s.slot i).state = .empty →
    ∃ t, exec (.presenceDetected i) s = .next t ∧
      t.slots = s.slots.set i { s.slot i with state := .loading, presenceCount := 0 } ∧
      t.bus = { s.bus with
        queue := s.bus.queue ++ [⟨.autoload, i, 0, 32, [], []⟩], copies := s.bus.copies.set i none } ∧
      t.sync = { s.sync with records := s.sync.records.set (.slot i) (SyncRec.blank .empty) } ∧
      t.pins = { s.pins with presence := s.pins.presence.set i true } ∧
      t = { s with slots := t.slots, bus := t.bus, sync := t.sync, pins := t.pins, pages := t.pages } ∧
      OnlyMarks s t

/-- Removal of a slot that is not on air, in QUIET, with no soft restart waiting for the bus (R23, R24, R40, R62, R66,
R144, R168): the slot is EMPTY with reason REMOVED, its requests and their transaction, copy, stale flag, record, map
and pending pulses are gone, and the jobs it held complete NO_BOARD, a POWER job with the state code 0, its mask and
the draw. That the emptied map has the label 0 is the model's choice (assumption 36). -/
def Obligations.RemovalEmptiesSlot : Prop :=
  ∀ (s : State) (i : Slot), (s.slot i).state ≠ .empty → Aside s i → s.bus.stopping = false →
    ∃ t, exec (.removal i) s = .next t ∧
      t.slots = s.slots.set i { SlotRec.reset with reason := .removed } ∧ t.warm = s.warm.erase i ∧
      t.supplyOn i = false ∧ t.resetAsserted i = true ∧ t.copy i = none ∧
      t.bus.queue = s.bus.queue.filter (fun q => decide (q.slot ≠ i)) ∧
      t.bus.phase = (if s.bus.queue.head?.map BusRequest.slot = some i then .idle else s.bus.phase) ∧
      t.bus.stale.get i = false ∧
      t.bus.undescribed.get i = .none ∧ t.bus.recovery.map Prod.fst ≠ some i ∧
      t.sync = { s.sync with records := s.sync.records.set (.slot i) (SyncRec.blank .empty) } ∧
      t.credit = { s.credit with
        feed := s.credit.feed.set i false, pending := s.credit.pending.set i 0, pulses := s.credit.pulses.set i none,
        bank := s.credit.bank + min (s.credit.pending.get i) (9999 - s.credit.bank),
        unbanked := s.credit.unbanked +
          BitVec.ofNat 32 (s.credit.pending.get i - min (s.credit.pending.get i) (9999 - s.credit.bank)) } ∧
      t.router.maps = s.router.maps.set i ⟨0, []⟩ ∧ t.router.pendingMaps = s.router.pendingMaps.set i none ∧
      t.router.driven ≠ some i ∧
      (∀ q, q ∈ s.bus.queue → q.slot = i → ∀ c, c ∈ q.cells → s.cell c = .taken → t.cell c = .done) ∧
      (∀ c, (s.slot i).jobCell = some c → s.cell c = .taken → t.cell c = .done) ∧
      (∀ m c, s.router.pendingMaps.get i = some (m, c) → s.cell c = .taken → t.cell c = .done) ∧
      (let es : List Ending :=
          (s.slot i).jobCell.toList.map (fun c => ⟨c, .noBoard, 0, [0, (s.slot i).mask.toNat, t.draw]⟩) ++
            (s.bus.queue.filter fun q => decide (q.slot = i)).flatMap
              (fun q => q.cells.map fun c => ⟨c, .noBoard, 0, []⟩) ++
            (s.router.pendingMaps.get i).toList.map fun p => ⟨p.2, .noBoard, 0, []⟩
       s.window.wf = true → Held s (es.map Ending.cell) → JobsEnd s t s.intake es) ∧
      t = { s with
        slots := t.slots, warm := t.warm, bus := t.bus, sync := t.sync, credit := t.credit, router := t.router,
        pins := t.pins, window := t.window, intake := t.intake, pages := t.pages } ∧
      OnlyMarks s t

/-- Removal of the on-air slot in QUIET (R123, R89, R181, R165): a FALLBACK at a loss start with reason REMOVED, the
holding raster taken up at once from the pass timing, the sound and the pins off. That the outgoing feed keeps the value
it had is the model's choice (assumption 43). -/
def Obligations.OnAirRemovalFallsBack : Prop :=
  ∀ (s : State) (i : Slot), s.ho.phase = .quiet → s.ho.onAir = some (.slot i) → (s.slot i).state ≠ .empty →
    s.raster.mode = .pass → s.bus.stopping = false →
    ∃ t, exec (.removal i) s = .next t ∧ (t.slot i).state = .empty ∧ (t.slot i).reason = .removed ∧
      t.ho = { s.ho with
        phase := if (s.record .menu).stable then .glide else .waitTarget, kind := .fallback, onAir := none,
        outgoing := some (.slot i), target := some .menu, active := none, frames := 0, rough := false,
        cutFeed := false, carry := 0, lastFallback := .removed, cancelled := false } ∧
      t.raster.mode = .hold ∧ t.raster.crosspoint = none ∧ t.raster.pass = none ∧ t.raster.acc = 0 ∧
      t.raster.lineIndex = 1 ∧ t.raster.lineStart = s.sync.mtick ∧ t.raster.cutArm = none ∧
      (∀ tm, s.raster.pass = some tm → t.raster.l = tm.l ∧
        t.raster.p = (if tm.p < s.raster.pMin then s.raster.pMin
          else if s.raster.pMax < tm.p then s.raster.pMax else tm.p)) ∧
      t.audio.current = 0 ∧ t.audio.target = 0 ∧ t.audio.wanted = none ∧ t.audio.crosspoint = none ∧
      t.router.driven = none ∧ t.router.activePins = 0 ∧ t.credit.feed.get i = false ∧ t.credit.pending.get i = 0 ∧
      OnlyMarks s t

/-- Over-current of a powered slot that is not on air, in QUIET (R35, R167): FAULT with reason OVERCURRENT, out of the
warm list and the draw, its feed closed and its pending pulses returned; pin flag and restarts stand; a POWER job on
its power-up completes FAULT with the state code 10, the evicted mask and the draw (R40). -/
def Obligations.OvercurrentFaults : Prop :=
  ∀ (s : State) (i : Slot), (s.slot i).state.powered = true → Aside s i →
    ∃ t, exec (.overcurrent i) s = .next t ∧
      t.slots = s.slots.set i { s.slot i with
        state := .fault, reason := .overcurrent, overCount := 0, settle := none, start := none, grace := none,
        cool := none, powerUp := none } ∧
      t.warm = s.warm.erase i ∧ t.supplyOn i = false ∧ t.resetAsserted i = true ∧ t.draw + s.drawClass i = s.draw ∧
      t.credit = { s.credit with
        feed := s.credit.feed.set i false, pending := s.credit.pending.set i 0,
        bank := s.credit.bank + min (s.credit.pending.get i) (9999 - s.credit.bank),
        unbanked := s.credit.unbanked +
          BitVec.ofNat 32 (s.credit.pending.get i - min (s.credit.pending.get i) (9999 - s.credit.bank)) } ∧
      (∀ c, (s.slot i).jobCell = some c → s.cell c = .taken → t.cell c = .done ∧
        (s.window.wf = true → CompletesCell s t c .fault 0 [10, (s.slot i).mask.toNat, t.draw])) ∧
      t = { s with
        slots := t.slots, warm := t.warm, credit := t.credit, window := t.window, intake := t.intake,
        pages := t.pages } ∧
      OnlyMarks s t

/-- The settle timer's expiry (R30, R78, R128): STARTING with the reset released and the start timer started, and a new
run of a LIVE record, its last stable timing kept. -/
def Obligations.SettleEndsInStarting : Prop :=
  ∀ (s : State) (i : Slot) (d : Descriptor), (s.slot i).state = .settling → s.copy i = some d →
    ∃ t, exec (.settleTimerExpiry i) s = .next t ∧
      t.slots = s.slots.set i { s.slot i with
        state := .starting, settle := none, start := some (d.startTimeout * 100) } ∧
      t.supplyOn i = true ∧ t.resetAsserted i = false ∧
      (∀ src, src ≠ .slot i → t.record src = s.record src) ∧
      t.record (.slot i) = (if (s.record (.slot i)).condition = .live then
          { s.record (.slot i) with
            reference := none, stableCount := 0, linesSeen := [], stable := false, interlaced := false,
            frameOpen := false, lines := 0 }
        else s.record (.slot i)) ∧
      t = { s with slots := t.slots, sync := t.sync, pages := t.pages } ∧ t.sync.mtick = s.sync.mtick ∧ OnlyMarks s t

/-- The start timer's expiry in STARTING and the grace timer's in LOST, for a slot that is not on air, in QUIET, with no
POWER job on its power-up (R128, R131, R132): the reason is written, the power removed, and an automatic restart is
requested while restarts are left. -/
def Obligations.ExpiryDecidesRestart : Prop :=
  ∀ (s : State) (i : Slot) (command : Instr) (reason : FailReason), Aside s i → (s.slot i).jobCell = none →
    ((command = .startTimerExpiry i ∧ (s.slot i).state = .starting ∧ reason = .startTimeout) ∨
      (command = .graceTimerExpiry i ∧ (s.slot i).state = .lost ∧ reason = .lost)) →
    ∃ t, exec command s = .next t ∧
      t.slots = s.slots.set i { s.slot i with
        state := .cooling, reason := reason, settle := none, start := none, grace := none,
        cool := some (s.figure i Descriptor.cool * 100), restarts := (s.slot i).restarts - 1,
        powerUp := if 0 < (s.slot i).restarts then some ⟨none, none, true, 0⟩ else none } ∧
      t.warm = s.warm.erase i ∧ t.draw + s.drawClass i = s.draw ∧
      t = { s with slots := t.slots, warm := t.warm, pages := t.pages } ∧ OnlyMarks s t

/-- The end of cooling (R34, R26, R28 to R30): OFF with nothing pending; LOADING with a RELOAD request and the stale
flag cleared when stale, a pending power-up kept; SETTLING when a pending power-up fits the budget. -/
def Obligations.CoolingEnds : Prop :=
  ∀ (s : State) (i : Slot), (s.slot i).state = .cooling →
    (s.bus.stale.get i = false → (s.slot i).powerUp = none →
      ∃ t, exec (.coolTimerExpiry i) s = .next t ∧
        t.slots = s.slots.set i { s.slot i with
          state := .off, settle := none, start := none, grace := none, cool := none } ∧
        t = { s with slots := t.slots, pages := t.pages } ∧ OnlyMarks s t) ∧
    (s.bus.stale.get i = true →
      ∃ t, exec (.coolTimerExpiry i) s = .next t ∧
        t.slots = s.slots.set i { s.slot i with
          state := .loading, settle := none, start := none, grace := none, cool := none } ∧
        t.bus = { s.bus with
          queue := s.bus.queue ++ [⟨.reload, i, 0, 32, [], []⟩], copies := s.bus.copies.set i none,
          stale := s.bus.stale.set i false } ∧
        t.sync = { s.sync with records := s.sync.records.set (.slot i) (SyncRec.blank .empty) } ∧
        t = { s with slots := t.slots, bus := t.bus, sync := t.sync, pages := t.pages } ∧ OnlyMarks s t) ∧
    (∀ p d, s.bus.stale.get i = false → (s.slot i).powerUp = some p → p.handOver = none → s.copy i = some d →
      s.draw + d.drawClass ≤ s.budget →
      ∃ t, exec (.coolTimerExpiry i) s = .next t ∧
        t.slots = s.slots.set i { s.slot i with
          state := .settling, settle := some (d.settle * 10), start := none, grace := none, cool := none,
          overCount := 0, powerUp := some ⟨p.job, none, p.auto, 0⟩ } ∧
        t.warm = i :: s.warm.erase i ∧ t.draw = s.draw + d.drawClass ∧
        t = { s with slots := t.slots, warm := t.warm, pages := t.pages } ∧ OnlyMarks s t)

/-! ### The adapter bus -/

/-- The bus begins the head request when it is idle with no recovery interval running (R51), and none while one runs
(R50); it turns to polling after a write's data STOP, its first poll due at the first ms tick at least 24000 mticks (1
ms) after it (R49); and a recovery interval ends (R50). The instants of the ms ticks (assumption 2), and that the end
of the interval carries the mtick counter on to its instant (assumption 9), are the model's choice. -/
def Obligations.BusServesHead : Prop :=
  (∀ (s : State) (q : BusRequest) (rest : List BusRequest), s.bus.phase = .idle → s.bus.recovery = none →
    s.bus.queue = q :: rest →
    ∃ t, exec .busRequestStart s = .next t ∧
      t.bus = { s.bus with phase := if q.kind = .write then .writing else .reading } ∧ t.branch = some q.slot ∧
      t = { s with bus := t.bus, pages := t.pages } ∧ OnlyMarks s t) ∧
  (∀ s : State, s.bus.phase = .writing → s.bus.stopping = false → s.bus.queue ≠ [] →
    (s.sync.mtick - s.sync.tickAt).toNat < 0x80000000 →
    ∃ t k, exec .writeDataStop s = .next t ∧
      t.bus = { s.bus with phase := .polling 0 (s.sync.tickAt + BitVec.ofNat 32 (k * 24000)) } ∧
      (s.sync.mtick - s.sync.tickAt).toNat + 24000 ≤ k * 24000 ∧
      k * 24000 < (s.sync.mtick - s.sync.tickAt).toNat + 48000 ∧
      t = { s with bus := t.bus, pages := t.pages } ∧ OnlyMarks s t) ∧
  (∀ s : State, s.bus.recovery ≠ none → ∃ t, exec .busRequestStart s = .next t ∧ Untouched s t) ∧
  (∀ (s : State) (i : Slot) (ends : Stamp), s.bus.recovery = some (i, ends) →
    ∃ t, exec .writeRecoveryEnd s = .next t ∧ t.bus = { s.bus with recovery := none } ∧
      t.sync = { s.sync with mtick := if (ends - s.sync.mtick).toNat < 0x80000000 then ends else s.sync.mtick } ∧
      t = { s with bus := t.bus, sync := t.sync, pages := t.pages } ∧ OnlyMarks s t)

/-- The end of an EEPROM_READ (R57, R48, R51): the job completes OK with the bytes packed two per word, and the request
leaves the queue; nothing else changes. -/
def Obligations.ReadCompletes : Prop :=
  ∀ (s : State) (q : BusRequest) (rest : List BusRequest) (c : CellNo) (bytes : List Byte), s.window.wf = true →
    s.bus.phase = .reading → s.bus.stopping = false → s.bus.queue = q :: rest → q.kind = .read → q.cells = [c] →
    s.cell c = .taken → bytes.length = q.len →
    ∃ t, exec (.readTransactionEnd bytes) s = .next t ∧ CompletesCell s t c .ok 0 (packBytes bytes) ∧
      t.bus = { s.bus with queue := rest, phase := .idle, stopping := false } ∧ t.branch = none ∧
      t.pages.cabinet.mark = true ∧ t = { s with window := t.window, intake := t.intake, pages := t.pages, bus := t.bus }

/-- The end of an AUTOLOAD or RELOAD with its attached jobs (R26, R53 to R56, R25, R66, R144): bytes that pass every
check become the slot's copy, the slot goes to OFF with its restarts, its record leaves EMPTY, a map that no longer
fits is emptied, the ratio takes the default and the attached jobs complete OK; a power-up kept through the load that
fits the budget is powered at once. On air in FADE_IN (the slot has cooled there, assumption 18) the new ratio sets the
target: a level that then stands at it, as it does at once with no ramp, ends FADE_IN and its job (R113, R178 to R180),
and another runs on toward it. Bytes that fail, and a missing acknowledge (reason BUS_NACK), leave the slot
UNDESCRIBED with the reason, which the attached jobs and a kept power-up's POWER job carry. That an emptied map has the
label 0 is the model's choice (assumption 36). -/
def Obligations.AutoloadEnds : Prop :=
  ∀ (s : State) (q : BusRequest) (rest : List BusRequest), s.window.wf = true → s.bus.phase = .reading →
    s.bus.stopping = false → s.bus.queue = q :: rest → q.isLoad = true →
    (∀ bytes : List Byte, bytes.length = q.len → descriptorFailure bytes = none →
      let d := descriptorOf bytes
      let ends : List Ending := q.cells.map fun c => ⟨c, .ok, 0, [d.title, d.drawClass]⟩
      let off : PerSlot SlotRec := s.slots.set q.slot { s.slot q.slot with state := .off, restarts := d.allowance }
      let loaded (t : State) (ratioed : Audio) : Prop :=
        t.bus = { s.bus with
          queue := rest, phase := .idle, stopping := false, copies := s.bus.copies.set q.slot (some d),
          undescribed := s.bus.undescribed.set q.slot .none } ∧
        t.sync = { s.sync with records := s.sync.records.set (.slot q.slot) (SyncRec.blank .silent) } ∧
        t.router = { s.router with
          maps := s.router.maps.set q.slot
            (if ∀ e, e ∈ (s.router.maps.get q.slot).entries → e.pin + (e.last - e.first) < d.pinCount
              then s.router.maps.get q.slot else ⟨0, []⟩) } ∧
        t.audio = { ratioed with ratios := s.audio.ratios.set (.slot q.slot) d.ratio } ∧
        t = { s with
          window := t.window, intake := t.intake, bus := t.bus, slots := t.slots, warm := t.warm, sync := t.sync,
          ho := t.ho, raster := t.raster, router := t.router, audio := t.audio, pages := t.pages }
      (s.audio.wanted ≠ some (.slot q.slot) → Held s q.cells → (s.slot q.slot).powerUp = none →
        ∃ t, exec (.readTransactionEnd bytes) s = .next t ∧ JobsEnd s t s.intake ends ∧ loaded t s.audio ∧
          t.ho = s.ho ∧ t.raster = s.raster ∧ t.warm = s.warm ∧ t.slots = off) ∧
      (s.audio.wanted = some (.slot q.slot) → s.audio.crosspoint = some (.slot q.slot) →
        s.ho.onAir = some (.slot q.slot) → s.ho.phase = .fadeIn → s.ho.waiting = none →
        (s.slot q.slot).powerUp = none → Held s (q.cells ++ s.ho.active.toList.map SwitchJob.cell) →
        let level := levelFormula s.audio.master d.ratio s.audio.floor
        (level ≠ s.audio.current → 0 < s.audio.ramp →
          ∃ t, exec (.readTransactionEnd bytes) s = .next t ∧ JobsEnd s t s.intake ends ∧
            loaded t { s.audio with target := level } ∧ t.ho = s.ho ∧ t.raster = s.raster ∧ t.warm = s.warm ∧
            t.slots = off) ∧
        (level = s.audio.current ∨ s.audio.ramp = 0 →
          ∃ t, exec (.readTransactionEnd bytes) s = .next t ∧
            JobsEnd s t s.intake (ends ++ s.ho.active.toList.map fun a =>
              if s.ho.cancelled then ⟨a.cell, .ok, 0x8000, [q.slot.number, 0, 0, 0]⟩
              else ⟨a.cell, .ok,
                (if s.ho.rough then 1 else 0) + (if s.ho.cold then 2 else 0) + (if s.ho.fromHold then 4 else 0),
                [q.slot.number, s.ho.frames, s.ho.evicted.toNat, s.ho.carried]⟩) ∧
            loaded t { s.audio with target := level, current := level } ∧
            t.ho = { s.ho with
              phase := .quiet, kind := .none, outgoing := none, target := none, active := none, frames := 0,
              rough := false, cold := false, fromHold := false, cancelled := false, releaseTimer := none } ∧
            t.raster = { s.raster with cutArm := none } ∧ t.warm = s.warm ∧ t.slots = off)) ∧
      (∀ p, s.audio.wanted ≠ some (.slot q.slot) → Held s q.cells → (s.slot q.slot).powerUp = some p →
        p.handOver = none → (s.slot q.slot).state = .loading → s.draw + d.drawClass ≤ s.budget →
        ∃ t, exec (.readTransactionEnd bytes) s = .next t ∧ JobsEnd s t s.intake ends ∧ loaded t s.audio ∧
          t.ho = s.ho ∧ t.raster = s.raster ∧ t.warm = q.slot :: s.warm.erase q.slot ∧
          t.draw = s.draw + d.drawClass ∧
          t.slots = s.slots.set q.slot { s.slot q.slot with
            state := .settling, settle := some (d.settle * 10), start := none, grace := none, cool := none,
            overCount := 0, restarts := d.allowance, powerUp := some ⟨p.job, none, p.auto, 0⟩ })) ∧
    (∀ (command : Instr) (u : Undescribed),
      (∃ bytes, bytes.length = q.len ∧ command = .readTransactionEnd bytes ∧ descriptorFailure bytes = some u) ∨
        (∃ point, (point = .deviceAddress ∨ point = .byteAddress ∨ point = .readAddress) ∧
          command = .ackMissing point ∧ u = .busNack) →
      let es : List Ending := (q.cells.map fun c => ⟨c, .undescribed, u.detail, []⟩) ++
        (s.slot q.slot).jobCell.toList.map fun c => ⟨c, .undescribed, u.detail, [2, 0, s.draw]⟩
      (s.slot q.slot).powerUp.bind PowerUp.handOver = none → (s.slot q.slot).state = .loading →
      Held s (es.map Ending.cell) →
      ∃ t, exec command s = .next t ∧ JobsEnd s t s.intake es ∧
        t.bus = { s.bus with
          queue := rest, phase := .idle, stopping := false,
          undescribed := s.bus.undescribed.set q.slot u } ∧
        t.slots = s.slots.set q.slot { s.slot q.slot with state := .undescribed, powerUp := none } ∧
        (t.pages.get (.source (.slot q.slot))).mark = true ∧
        t = { s with
          window := t.window, intake := t.intake, bus := t.bus, slots := t.slots, pages := t.pages })

/-- The ends of an EEPROM_WRITE and of an EEPROM_READ without its acknowledge (R48 to R50, R57, R59, R60). Each poll is
made at the ms tick at which it is due: one acknowledged completes OK with the polls made, the 10th unacknowledged
WRITE_TIMEOUT, an earlier one polls on at the next tick. That a poll carries the mtick counter on to its tick
(assumption 9), that the ticks stand 24000 mticks apart (assumption 2), and that the 10th poll may come as ACK_POLL or
as WRITE_TIMEOUT (assumption 28) are the model's. A missing acknowledge completes BUS_NACK with its byte address, after
a data byte with a recovery interval of 10 ms. These outside the descriptor bytes; an acknowledged write into them
queues a reload of an OFF or UNDESCRIBED slot (word 19 = 1), and marks a powered, COOLING or FAULT slot stale (word 19
= 2). -/
def Obligations.WriteEnds : Prop :=
  ∀ (s : State) (q : BusRequest) (rest : List BusRequest) (c : CellNo), s.window.wf = true → s.bus.stopping = false →
    s.bus.queue = q :: rest → q.cells = [c] → s.cell c = .taken →
    let polledAt (due : Stamp) : Sync := { s.sync with
      mtick := if (due - s.sync.mtick).toNat < 0x80000000 then due else s.sync.mtick }
    (32 ≤ q.addr → ∀ n due, s.bus.phase = .polling n due →
      (∃ t, exec (.ackPoll true) s = .next t ∧ CompletesCell s t c .ok 0 [n + 1, 0] ∧
        t.bus = { s.bus with queue := rest, phase := .idle, stopping := false } ∧ t.sync = polledAt due ∧
        t = { s with window := t.window, intake := t.intake, pages := t.pages, bus := t.bus, sync := t.sync }) ∧
      (n < 9 → ∃ t, exec (.ackPoll false) s = .next t ∧
        t.bus = { s.bus with phase := .polling (n + 1) (due + 24000) } ∧ t.sync = polledAt due ∧
        t = { s with pages := t.pages, bus := t.bus, sync := t.sync } ∧ OnlyMarks s t) ∧
      (n = 9 → ∀ command, command = .ackPoll false ∨ command = .writeTimeout →
        ∃ t, exec command s = .next t ∧ CompletesCell s t c .writeTimeout 0 [10, 0] ∧
          t.bus = { s.bus with queue := rest, phase := .idle, stopping := false } ∧ t.sync = polledAt due ∧
          t = { s with window := t.window, intake := t.intake, pages := t.pages, bus := t.bus, sync := t.sync })) ∧
    (q.addr < 32 → ∀ n due, s.bus.phase = .polling n due →
      ((s.slot q.slot).state = .off ∨ (s.slot q.slot).state = .undescribed →
        ∃ t, exec (.ackPoll true) s = .next t ∧ CompletesCell s t c .ok 0 [n + 1, 1] ∧
          t.bus = { s.bus with
            queue := rest ++ [⟨.reload, q.slot, 0, 32, [], []⟩], phase := .idle, stopping := false,
            copies := s.bus.copies.set q.slot none } ∧
          t.slots = s.slots.set q.slot { s.slot q.slot with state := .loading } ∧
          t.sync = { polledAt due with
            records := s.sync.records.set (.slot q.slot) (SyncRec.blank .empty) } ∧
          t = { s with
            window := t.window, intake := t.intake, pages := t.pages, bus := t.bus, slots := t.slots,
            sync := t.sync }) ∧
      ((s.slot q.slot).state.powered = true ∨ (s.slot q.slot).state = .cooling ∨ (s.slot q.slot).state = .fault →
        ∃ t, exec (.ackPoll true) s = .next t ∧ CompletesCell s t c .ok 0 [n + 1, 2] ∧
          t.bus = { s.bus with
            queue := rest, phase := .idle, stopping := false, stale := s.bus.stale.set q.slot true } ∧
          t.sync = polledAt due ∧
          t = { s with window := t.window, intake := t.intake, pages := t.pages, bus := t.bus, sync := t.sync })) ∧
    (s.bus.phase = .writing →
      (∀ point, point = .deviceAddress ∨ point = .byteAddress →
        ∃ t, exec (.ackMissing point) s = .next t ∧ CompletesCell s t c .busNack q.addr [0, 0] ∧
          t.bus = { s.bus with queue := rest, phase := .idle, stopping := false } ∧
          t = { s with window := t.window, intake := t.intake, pages := t.pages, bus := t.bus }) ∧
      (∀ k, k < q.len → 32 ≤ q.addr →
        ∃ t, exec (.ackMissing (.dataByte k)) s = .next t ∧ CompletesCell s t c .busNack (q.addr + k) [0, 0] ∧
          t.bus = { s.bus with
            queue := rest, phase := .idle, stopping := false,
            recovery := some (q.slot, s.sync.mtick + 240000) } ∧
          t = { s with window := t.window, intake := t.intake, pages := t.pages, bus := t.bus })) ∧
    (s.bus.phase = .reading → q.kind = .read →
      ∀ point, point = .deviceAddress ∨ point = .byteAddress ∨ point = .readAddress →
        ∃ t, exec (.ackMissing point) s = .next t ∧ CompletesCell s t c .busNack q.addr [] ∧
          t.bus = { s.bus with queue := rest, phase := .idle, stopping := false } ∧
          t = { s with window := t.window, intake := t.intake, pages := t.pages, bus := t.bus })

/-! ### Sync measurement -/

/-- A leading edge on a horizontal or composite input (R69): counted when no last hsync edge time is held or at least
three quarters of the separation period have passed; a counted edge sets the last hsync edge time and, in LIVE with a
frame open, adds 1 to lines so far, saturating at 1023; any other edge changes nothing in the record. An edge that does
not come after the frame's vsync leading edge belongs to the frame before it (R71) and adds nothing here. -/
def Obligations.HsyncEdgeCounts : Prop :=
  ∀ (s : State) (src : Source) (stamp : Stamp),
    let r := s.record src
    let separation := if r.reference.isSome then r.p else if r.lastP ≠ 0 then r.lastP else s.windowLow src
    let counted := r.lastHsync = none ∨ ∃ h, r.lastHsync = some h ∧ 3 * separation ≤ (stamp - h).toNat * 64
    ∃ t, exec (.hsyncLeadingEdge src stamp) s = .next t ∧
      (r.condition ≠ .empty → counted → t.record src = { r with
        lastHsync := some stamp,
        lines := if r.condition = .live ∧ r.frameOpen = true ∧ stamp ≠ r.lastVsync ∧
            (stamp - r.lastVsync).toNat < 0x80000000 then min 1023 (r.lines + 1) else r.lines }) ∧
      (r.condition = .empty ∨ ¬ counted → t.record src = r) ∧
      (∀ other, other ≠ src → t.record other = s.record other) ∧
      t = { s with sync := t.sync, pages := t.pages } ∧ OnlyMarks s t

/-- A vsync leading edge of a slot (R70 to R75, R77, R79, R108, R109, R129 to R131, R140). A pulse of a quarter of S or
less changes nothing but page marks, and one less than half of S after an edge is passed over. Any other one, with no
counted hsync edge taken that comes after it: in QUIET, with the slot not on air, the generator in HOLD and no cut arm,
it returns a SILENT record to LIVE with a frame open; a valid frame that disagrees with the run, or finds none, begins
a run of its own, and an invalid one ends the run, and either way a stable record is UNSTABLE, and a RUNNING slot LOST
with its grace started. The eighth agreeing frame sets the stable flag and the last stable timing: a STARTING slot, or
a LOST one within its grace, is RUNNING, but ON_AIR where it is the outgoing not yet released, whose pass timing is set
(R87); as the target in WAIT_TARGET it is ready, and the phase is GLIDE, or its window check fails and the hand-over
becomes a FALLBACK with reason OUT_OF_RANGE, its job TARGET_FAILED. -/
def Obligations.VsyncEdgeMeasures : Prop :=
  ∀ (s : State) (i : Slot) (stamp : Stamp) (width : Nat),
    let src := Source.slot i
    let r := s.record src
    let separation := if r.reference.isSome then r.p else if r.lastP ≠ 0 then r.lastP else s.windowLow src
    let beside : Prop := Aside s i ∧ s.raster.mode = .hold ∧ s.raster.cutArm = none
    (width * 64 ≤ separation →
      ∃ t, exec (.vsyncLeadingEdge src .horizontal ⟨stamp, width⟩) s = .next t ∧ Untouched s t) ∧
    (separation < width * 64 → (∃ e, r.lastEdge = some e ∧ (stamp - e).toNat * 2 < separation) →
      ∃ t, exec (.vsyncLeadingEdge src .horizontal ⟨stamp, width⟩) s = .next t ∧ t.sync.records = s.sync.records ∧
        t = { s with sync := t.sync, pages := t.pages } ∧ OnlyMarks s t) ∧
    (separation < width * 64 → (∀ e, r.lastEdge = some e → separation ≤ (stamp - e).toNat * 2) →
      (∀ h, r.lastHsync = some h → h = stamp ∨ 0x80000000 ≤ (h - stamp).toNat) →
      (∀ h, beside → r.condition = .silent → r.lastHsync = some h → (stamp - h).toNat ≤ 96000 →
        ∃ t, exec (.vsyncLeadingEdge src .horizontal ⟨stamp, width⟩) s = .next t ∧
          t.record src = { r with
            condition := .live, frameOpen := true, lines := 0, lastVsync := stamp, lastEdge := some stamp } ∧
          (∀ other, other ≠ src → t.record other = s.record other) ∧
          t = { s with sync := t.sync, pages := t.pages } ∧ OnlyMarks s t) ∧
      (∀ c n, r.condition = .live → r.frameOpen = true → n = r.lines →
        c = ((stamp - r.lastVsync).toNat * 32 + n) / (2 * n) →
        let valid : Prop := 200 ≤ n ∧ n ≤ 700 ∧ s.windowLow src ≤ c ∧ c ≤ s.windowHigh src
        let ended : SyncRec := { r with
          frameTime := stamp - r.lastVsync, frameLines := n, lines := 0, lastVsync := stamp, lastEdge := some stamp }
        (∀ ref, r.reference = some ref → r.stableCount = 7 → r.stable = false → valid → ref.agrees c n = true →
          let eighth (t : State) : Prop :=
            (t.record src).l ≤ n ∧
            t.record src = { ended with
              stable := true, stableCount := 8, p := c, lastP := c, l := (t.record src).l,
              lastL := (t.record src).l, linesSeen := (t.record src).linesSeen,
              interlaced := (t.record src).interlaced } ∧
            (t.pages.get (.source src)).mark = true ∧ (∀ other, other ≠ src → t.record other = s.record other) ∧
            OnlyMarks s t
          let settles (after : SlotRec) : Prop :=
            (s.slot i).state = .starting ∧ (s.slot i).jobCell = none ∧
                after = { s.slot i with state := .running, start := none, powerUp := none } ∨
              (s.slot i).state = .lost ∧ s.ho.onAir ≠ some src ∧
                after = { s.slot i with state := .running, grace := none }
          (∀ after, beside → s.ho.target ≠ some src → settles after →
            ∃ t, exec (.vsyncLeadingEdge src .horizontal ⟨stamp, width⟩) s = .next t ∧ eighth t ∧
              t.slots = s.slots.set i after ∧ t = { s with sync := t.sync, slots := t.slots, pages := t.pages }) ∧
          ((s.ho.phase = .fadeOut ∨ s.ho.phase = .release) → s.ho.onAir = some src → (s.slot i).state = .lost →
            s.ho.target ≠ some src → s.raster.mode = .pass → s.raster.crosspoint = some src →
            s.raster.releaseOrder ≠ some src →
            ∃ t, exec (.vsyncLeadingEdge src .horizontal ⟨stamp, width⟩) s = .next t ∧ eighth t ∧
              t.slots = s.slots.set i { s.slot i with state := .onAir, grace := none } ∧
              t.raster = { s.raster with pass := some ⟨c, (t.record src).l⟩ } ∧
              t = { s with sync := t.sync, slots := t.slots, raster := t.raster, pages := t.pages }) ∧
          (∀ after, settles after ∨ (s.slot i).state = .running ∧ after = s.slot i → s.ho.phase = .waitTarget →
            s.ho.target = some src → s.ho.onAir = none → s.raster.mode = .hold → s.raster.cutArm = none →
            (s.raster.pMin ≤ c → c ≤ s.raster.pMax →
              ∃ t, exec (.vsyncLeadingEdge src .horizontal ⟨stamp, width⟩) s = .next t ∧ eighth t ∧
                t.slots = s.slots.set i after ∧ t.ho = { s.ho with phase := .glide } ∧
                t = { s with sync := t.sync, slots := t.slots, ho := t.ho, pages := t.pages }) ∧
            (c < s.raster.pMin ∨ s.raster.pMax < c → s.window.wf = true →
              Held s (s.ho.active.toList.map SwitchJob.cell) →
              ∃ t, exec (.vsyncLeadingEdge src .horizontal ⟨stamp, width⟩) s = .next t ∧ eighth t ∧
                JobsEnd s t s.intake (s.ho.active.toList.map fun a =>
                  ⟨a.cell, .targetFailed, 5, [a.target.number, s.ho.frames, s.ho.evicted.toNat, 0]⟩) ∧
                t.slots = s.slots.set i after ∧
                t.ho = { s.ho with
                  phase := if (s.record .menu).stable then .glide else .waitTarget, kind := .fallback,
                  target := some .menu, lastFallback := .outOfRange, active := none, cutFeed := false, carry := 0 } ∧
                t = { s with
                  sync := t.sync, slots := t.slots, ho := t.ho, window := t.window, intake := t.intake,
                  pages := t.pages }))) ∧
        (∀ after : SyncRec,
          (valid ∧ (∀ ref, r.reference = some ref → ref.agrees c n = false) ∧
              after = { ended with
                reference := some ⟨c, n⟩, stableCount := 1, p := c, l := n, linesSeen := [n], stable := false,
                interlaced := false } ∨
            ¬ valid ∧ after = { ended with
              reference := none, stableCount := 0, linesSeen := [], stable := false, interlaced := false }) →
          beside → (s.slot i).state ≠ .onAir →
          ∃ t, exec (.vsyncLeadingEdge src .horizontal ⟨stamp, width⟩) s = .next t ∧ t.record src = after ∧
            (r.stable = true → (t.pages.get (.source src)).mark = true) ∧
            t.slots = (if r.stable = true ∧ (s.slot i).state = .running then
                s.slots.set i { s.slot i with state := .lost, grace := some (s.figure i Descriptor.grace * 10) }
              else s.slots) ∧
            (∀ other, other ≠ src → t.record other = s.record other) ∧
            t = { s with sync := t.sync, slots := t.slots, pages := t.pages } ∧ OnlyMarks s t)))

/-- A polarity change of a LIVE record that was not stable ends its run and closes its frame (R68), here of a source
that is not on air, in QUIET with no target. A loss of sync takes a LIVE record to SILENT, keeping its timing and
stamps, and a RUNNING slot that is not on air to LOST with its grace started (R76, R129). The loss of the on-air source
in QUIET starts a RECOVERY (R135, R89, R181, R165): HOLD at once, the sound and the pins off, the feed recorded and
closed and the pending pulses returned, source and target the lost source, and an ON_AIR slot LOST. That a change of
polarity also moves the input's times to the new rest level, where they would still confirm the polarity left, is the
model's choice (assumption 3), and so are that a loss acts whatever time has passed (assumption 8), leaves the mtick
counter (assumption 9), and records the feed of source 0 as closed (assumption 46). -/
def Obligations.PolarityAndLoss : Prop :=
  ∀ s : State, s.ho.phase = .quiet → s.ho.target = none →
    (∀ src, (s.record src).condition = .live → (s.record src).stable = false →
      ∃ t, exec (.polarityChange src .horizontal) s = .next t ∧
        t.record src = { s.record src with
          horizontalPositive := !(s.record src).horizontalPositive, horizontalConfirm := 0, reference := none,
          stableCount := 0, linesSeen := [], stable := false, interlaced := false, frameOpen := false, lines := 0 } ∧
        (∀ other, other ≠ src → t.record other = s.record other) ∧
        (∀ other, other ≠ src → t.pins.highHorizontal.get other = s.pins.highHorizontal.get other) ∧
        t.pins = { s.pins with highHorizontal := t.pins.highHorizontal } ∧
        t = { s with sync := t.sync, pins := t.pins, pages := t.pages } ∧ OnlyMarks s t) ∧
    (∀ (src : Source) (command : Instr), command = .hsyncLoss src ∨ command = .vsyncLoss src →
      (s.record src).condition = .live →
      let silent : SyncRec := { s.record src with
        condition := .silent, reference := none, stableCount := 0, linesSeen := [], stable := false,
        interlaced := false, frameOpen := false, lines := 0 }
      ∃ t, exec command s = .next t ∧ t.record src = silent ∧
        (∀ other, other ≠ src → t.record other = s.record other) ∧ (t.pages.get (.source src)).mark = true ∧
        OnlyMarks s t ∧
        (∀ i, t.slot i = if src = .slot i ∧ ((s.slot i).state = .running ∨ (s.slot i).state = .onAir) then
            { s.slot i with state := .lost, grace := some (s.figure i Descriptor.grace * 10) }
          else s.slot i) ∧
        (s.ho.onAir ≠ some src → t = { s with sync := t.sync, slots := t.slots, pages := t.pages }) ∧
        (s.ho.onAir = some src → s.raster.mode = .pass →
          t.ho = { s.ho with
            phase := .waitTarget, kind := .recovery, onAir := none, outgoing := some src, target := some src,
            active := none, frames := 0, rough := false, carry := 0, cancelled := false,
            cutFeed := t.ho.outgoingFeed, outgoingFeed := (match src with
              | .menu => false
              | .slot i => s.credit.feed.get i) } ∧
          HoldsAtOnce s t ∧
          t.audio = { s.audio with current := 0, target := 0, wanted := none, crosspoint := none } ∧
          t.router = { s.router with driven := none, entries := [], activePins := 0, chordFreeze := false } ∧
          t.credit = (match src with
            | .menu => s.credit
            | .slot i =>
              { s.credit with
                feed := s.credit.feed.set i false, pending := s.credit.pending.set i 0,
                bank := s.credit.bank + min (s.credit.pending.get i) (9999 - s.credit.bank),
                unbanked := s.credit.unbanked + BitVec.ofNat 32
                  (s.credit.pending.get i - min (s.credit.pending.get i) (9999 - s.credit.bank)) }) ∧
          t = { s with
            sync := t.sync, slots := t.slots, pages := t.pages, ho := t.ho, raster := t.raster, audio := t.audio,
            router := t.router, credit := t.credit }))

/-! ### The raster generator and the hand-over -/

/-- The cut (R96, R112, R33, R149, R165, R170, R176, R178): in ALIGN with the cut armed for a RUNNING slot, the vsync
leading edge that arrives after the arming and leaves the record stable puts the slot on air: PASS, the pass timing,
the warm list's head, the carry clamped three ways, the feed by the cut feed, the crosspoint and the level's target,
FADE_IN. The level is taken to have a ramp and a target above 0. That the line index, which has no meaning in PASS,
becomes 1 is the model's choice (assumption 34). -/
def Obligations.CutPutsOnAir : Prop :=
  ∀ (s : State) (i : Slot) (d : Descriptor) (arm : CutArm) (stamp : Stamp) (width : Nat),
    let src := Source.slot i
    let o := (s.record src).vsyncEdge (s.windowLow src) (s.windowHigh src) stamp
    s.ho.phase = .align → s.ho.onAir = none → s.ho.target = some src → s.raster.mode = .hold →
    s.raster.cutArm = some arm → arm.target = src → stamp ≠ arm.armedAt →
    (stamp - arm.armedAt).toNat < 0x80000000 → (s.record src).separation (s.windowLow src) < width * 64 →
    o.announced = true → o.event = none → o.record.stable = true →
    (s.slot i).state = .running → s.copy i = some d → s.audio.current = 0 → s.audio.crosspoint = none →
    0 < s.audio.ramp → 0 < levelFormula s.audio.master (s.audio.ratios.get src) s.audio.floor →
    let carry := if s.ho.active.isSome then min s.ho.carry d.pulseCap else 0
    let moved := min carry (min s.credit.bank (d.pulseCap - s.credit.pending.get i))
    ∃ t, exec (.vsyncLeadingEdge src .horizontal ⟨stamp, width⟩) s = .next t ∧
      t.ho = { s.ho with phase := .fadeIn, onAir := some src, rough := arm.rough, carried := moved, cancelled := false } ∧
      t.raster = { s.raster with
        mode := .pass, crosspoint := some src, pass := some ⟨o.record.lastP, o.record.lastL⟩, acc := 0, lineIndex := 1,
        lineBegun := false, lineLength := 0, cutArm := none } ∧
      t.slots = s.slots.set i { s.slot i with state := .onAir } ∧ t.warm = i :: s.warm.erase i ∧
      t.credit = { s.credit with
        bank := s.credit.bank - moved, pending := s.credit.pending.set i (s.credit.pending.get i + moved),
        feed := if s.ho.cutFeed then s.credit.feed.set i true else s.credit.feed } ∧
      t.router.driven = some i ∧ t.router.activePins = 0 ∧ t.record src = o.record ∧
      t.audio = { s.audio with
        wanted := some src, crosspoint := some src,
        target := levelFormula s.audio.master (s.audio.ratios.get src) s.audio.floor } ∧
      t = { s with
        ho := t.ho, raster := t.raster, slots := t.slots, warm := t.warm, credit := t.credit, router := t.router,
        sync := t.sync, audio := t.audio, pages := t.pages } ∧
      OnlyMarks s t

/-- Holding lines and frame ends (R84, R86, R91 to R94, R96, R110): a frame's first line begins at the instant the
frame began, and each line lasts floor(total / 16) mticks with total mod 16 left in the accumulator. A frame end in
QUIET glides toward the rest raster; in WAIT_TARGET it steps nothing and adds 1 to the frame count; in GLIDE onto a
usable target it steps P and L toward the target's by at most G and V, and ALIGN follows when both stand there; in
ALIGN it steps P and takes L from the alignment error e, arming the cut at |e| ≤ 1, arming it rough at the align limit
and otherwise raising the align count; an armed frame steps P alone. Whatever the phase, P stays within the monitor
window and moves by at most the glide step in force. The model's are: that a frame end commanded before every line has
begun runs the lines left out, in the accumulator, the frame's instant and the arming's (assumption 25), and the
quotient of 0 that e has for a frame time or last stable P of 0 (assumption 23). -/
def Obligations.HoldingRasterSteps : Prop :=
  ∀ s : State, s.raster.mode = .hold →
    (s.raster.lineBegun = false →
      ∃ t, exec .holdingLineStart s = .next t ∧
        t.raster = { s.raster with
          lineBegun := true, lineLength := (s.raster.p + s.raster.acc) / 16, acc := (s.raster.p + s.raster.acc) % 16 } ∧
        t = { s with raster := t.raster, sync := t.sync, pages := t.pages } ∧ t.sync.records = s.sync.records ∧
        OnlyMarks s t) ∧
    (s.raster.lineBegun = true → s.raster.lineIndex < s.raster.l →
      ∃ t, exec .holdingLineStart s = .next t ∧
        t.raster = { s.raster with
          lineIndex := s.raster.lineIndex + 1, lineStart := s.raster.lineStart + BitVec.ofNat 32 s.raster.lineLength,
          lineLength := (s.raster.p + s.raster.acc) / 16, acc := (s.raster.p + s.raster.acc) % 16 } ∧
        t = { s with raster := t.raster, sync := t.sync, pages := t.pages } ∧ t.sync.records = s.sync.records ∧
        OnlyMarks s t) ∧
    (s.ho.phase = .quiet → s.raster.pendingGlide = none →
      ∃ t, exec .holdingFrameEnd s = .next t ∧
        t.raster.p = stepToward s.raster.p s.raster.pRest s.raster.glide.g ∧
        t.raster.l = stepToward s.raster.l s.raster.lRest s.raster.glide.v ∧ t.raster.lineIndex = 1 ∧
        t.raster.alignCount = 0 ∧
        t = { s with raster := t.raster, sync := t.sync, pages := t.pages } ∧ t.sync.records = s.sync.records ∧
        OnlyMarks s t) ∧
    (s.ho.phase = .waitTarget → s.ho.frames < 65535 →
      ∃ t, exec .holdingFrameEnd s = .next t ∧ t.raster.p = s.raster.p ∧ t.raster.l = s.raster.l ∧
        t.ho = { s.ho with frames := s.ho.frames + 1 } ∧
        t = { s with raster := t.raster, sync := t.sync, ho := t.ho, pages := t.pages } ∧ OnlyMarks s t) ∧
    (∀ target : Source, s.ho.target = some target → s.raster.pendingGlide = none →
      let record := s.record target
      let ended : Raster := { s.raster with
        acc := s.raster.sixteenthsLeft % 16, lineIndex := 1, lineBegun := false, lineStart := s.raster.frameEndAt,
        lineLength := 0 }
      let stepped (x : State) (r : Raster) (rough : Bool) (p : Phase) : Prop :=
        x.raster = r ∧ x.ho = { s.ho with frames := min 65535 (s.ho.frames + 1), rough := rough, phase := p } ∧
          x = { s with raster := x.raster, ho := x.ho, sync := x.sync, pages := x.pages } ∧
          x.sync.records = s.sync.records ∧ OnlyMarks s x
      record.stable = true → s.raster.pMin ≤ record.lastP → record.lastP ≤ s.raster.pMax →
      (s.ho.phase = .glide →
        let p := stepToward s.raster.p record.lastP s.raster.glide.g
        let l := stepToward s.raster.l record.lastL s.raster.glide.v
        ∃ t, exec .holdingFrameEnd s = .next t ∧
          stepped t { ended with p := p, l := l, alignCount := 0 } s.ho.rough
            (if p = record.lastP ∧ l = record.lastL then .align else .glide)) ∧
      (s.ho.phase = .align →
        let p := stepToward s.raster.p record.lastP s.raster.glide.g
        let d := (s.raster.frameEndAt - record.lastVsync).toNat % record.frameTime.toNat
        let raw := (d * 32 + record.lastP) / (2 * record.lastP)
        let e : Int := if record.lastL < raw * 2 then (raw : Int) - record.lastL else raw
        let count := if s.raster.alignTarget = some target then s.raster.alignCount + 1 else 1
        let aligned : Raster := { ended with p := p, alignTarget := some target }
        (∀ arm, s.raster.cutArm = some arm →
          ∃ t, exec .holdingFrameEnd s = .next t ∧
            stepped t { ended with p := p, l := record.lastL, alignCount := 0 } arm.rough .align) ∧
        (s.raster.cutArm = none →
          (e.natAbs ≤ 1 → ∃ t, exec .holdingFrameEnd s = .next t ∧
            stepped t { aligned with
              l := record.lastL, alignCount := 0, cutArm := some ⟨target, false, s.raster.frameEndAt⟩ } false .align) ∧
          (1 < e.natAbs → s.raster.glide.limit ≤ count → ∃ t, exec .holdingFrameEnd s = .next t ∧
            stepped t { aligned with
              l := record.lastL, alignCount := 0, cutArm := some ⟨target, true, s.raster.frameEndAt⟩ } true .align) ∧
          (1 < e.natAbs → count < s.raster.glide.limit → ∃ t, exec .holdingFrameEnd s = .next t ∧
            stepped t { aligned with
              l := ((record.lastL : Int) - clampInt e (-(s.raster.glide.a : Int)) s.raster.glide.a).toNat,
              alignCount := count } s.ho.rough .align)))) ∧
    (s.raster.pMin ≤ s.raster.p → s.raster.p ≤ s.raster.pMax → s.raster.pMin ≤ s.raster.pRest →
      s.raster.pRest ≤ s.raster.pMax →
      ∃ t, exec .holdingFrameEnd s = .next t ∧ t.raster.mode = .hold ∧ t.raster.pMin ≤ t.raster.p ∧
        t.raster.p ≤ t.raster.pMax ∧ t.raster.p ≤ s.raster.p + t.raster.glide.g ∧
        s.raster.p ≤ t.raster.p + t.raster.glide.g ∧ t.raster.pendingGlide = none ∧
        t.raster.glide = s.raster.pendingGlide.getD s.raster.glide)

/-- The release of the outgoing, here with the level at 0 and source 0 the target, not stable (R88, R106, R33): at the
release timer's expiry an immediate start of HOLD at the present instant (R89), at the first announced vsync leading
edge of the outgoing after the order one at the edge's stamp: on air NONE, an ON_AIR outgoing RUNNING, the crosspoints
left, WAIT_TARGET, the holding timing from the pass timing with P limited to the monitor window. In PASS an announced
edge of the source selected sets the pass timing from a record that the edge leaves stable, before a release at it, and
leaves it for one that is not (R87). -/
def Obligations.ReleaseTimerReleases : Prop :=
  (∀ (s : State) (i : Slot), s.ho.phase = .release → s.ho.onAir = some (.slot i) → s.ho.outgoing = some (.slot i) →
    s.ho.target = some .menu → (s.record .menu).stable = false → s.raster.mode = .pass → s.audio.current = 0 →
    ∃ t, exec .releaseTimerExpiry s = .next t ∧
      t.ho = { s.ho with phase := .waitTarget, onAir := none, releaseTimer := none } ∧
      t.raster = { s.raster with
        mode := .hold, crosspoint := none, p := t.raster.p, l := t.raster.l, acc := 0, lineIndex := 1,
        lineBegun := false, lineStart := s.sync.mtick, lineLength := 0, pass := none, releaseOrder := none,
        cutArm := none } ∧
      (∀ tm, s.raster.pass = some tm → t.raster.l = tm.l ∧
        t.raster.p = (if tm.p < s.raster.pMin then s.raster.pMin
          else if s.raster.pMax < tm.p then s.raster.pMax else tm.p)) ∧
      (∀ k, t.slot k = if k = i ∧ (s.slot k).state = .onAir then { s.slot k with state := .running } else s.slot k) ∧
      t.warm = s.warm ∧ t.audio = { s.audio with wanted := none, crosspoint := none, target := 0 } ∧
      t.router = { s.router with driven := none, entries := [], activePins := 0, chordFreeze := false } ∧
      t = { s with
        ho := t.ho, raster := t.raster, slots := t.slots, audio := t.audio, router := t.router, pages := t.pages } ∧
      OnlyMarks s t) ∧
  (∀ (s : State) (i : Slot) (stamp : Stamp) (width : Nat),
    let src := Source.slot i
    let o := (s.record src).vsyncEdge (s.windowLow src) (s.windowHigh src) stamp
    let pass : Option Timing := if o.record.stable then some ⟨o.record.lastP, o.record.lastL⟩ else s.raster.pass
    (s.record src).separation (s.windowLow src) < width * 64 → o.announced = true → o.event = none →
    s.raster.mode = .pass → s.raster.crosspoint = some src →
    (s.raster.releaseOrder ≠ some src →
      ∃ t, exec (.vsyncLeadingEdge src .horizontal ⟨stamp, width⟩) s = .next t ∧ t.record src = o.record ∧
        (∀ other, other ≠ src → t.record other = s.record other) ∧ t.raster = { s.raster with pass := pass } ∧
        t = { s with sync := t.sync, raster := t.raster, pages := t.pages } ∧ OnlyMarks s t) ∧
    (s.raster.releaseOrder = some src → s.ho.phase = .release → s.ho.onAir = some src → s.ho.outgoing = some src →
      s.ho.target = some .menu → (s.record .menu).stable = false → s.audio.current = 0 →
      ∃ t, exec (.vsyncLeadingEdge src .horizontal ⟨stamp, width⟩) s = .next t ∧ t.record src = o.record ∧
        (∀ other, other ≠ src → t.record other = s.record other) ∧
        t.ho = { s.ho with phase := .waitTarget, onAir := none, releaseTimer := none } ∧
        t.raster = { s.raster with
          mode := .hold, crosspoint := none, p := t.raster.p, l := t.raster.l, acc := 0, lineIndex := 1,
          lineBegun := false, lineStart := stamp, lineLength := 0, pass := none, releaseOrder := none,
          cutArm := none } ∧
        (∀ tm, pass = some tm → t.raster.l = tm.l ∧
          t.raster.p = (if tm.p < s.raster.pMin then s.raster.pMin
            else if s.raster.pMax < tm.p then s.raster.pMax else tm.p)) ∧
        (∀ k, t.slot k =
          if k = i ∧ (s.slot k).state = .onAir then { s.slot k with state := .running } else s.slot k) ∧
        t.audio = { s.audio with wanted := none, crosspoint := none, target := 0 } ∧
        t.router = { s.router with driven := none, entries := [], activePins := 0, chordFreeze := false } ∧
        t = { s with
          sync := t.sync, ho := t.ho, raster := t.raster, slots := t.slots, audio := t.audio, router := t.router,
          pages := t.pages } ∧
        OnlyMarks s t))

/-! ### The control router -/

/-- Debounced lines (R142, R143, R150, R152, R153, R161): an activation of an input sets its bit, starts every idle
PULSE and AUTOFIRE entry of the driven slot that covers it and holds no release-wait mark, and puts at its active level
exactly each pin with an active entry; one of the service line brings a unit, here to the bank; a release clears the
line. While the scan of the latest ms tick has its pins to compute, an activation leaves them as they are: the scan
computes them once, last (R142); an event outside a scan has them computed for it alone, which is the model's choice
(assumption 40, with the scan's stages of assumption 2). -/
def Obligations.LinesSettle : Prop :=
  let driven (t : State) : Prop := t.router.chordFreeze = false → t.router.restartHold = false → ∀ p, p < 48 →
    (t.router.activePins.getLsbD p = true ↔ ∃ k m e x, t.router.drivenMap[k]? = some e ∧
      t.entryState k m = some x ∧ e.activeFor t.router.inputs m x = true ∧ p = e.pin + (m - e.first))
  (∀ (s : State) (n : Fin 32), s.router.inputs.getLsbD n.val = false →
    ∃ t, exec (.lineActivation (.input n)) s = .next t ∧ t.router.inputs = s.router.inputs ||| (1#32 <<< n.val) ∧
      (∀ (k m : Nat) (e : MapEntry) (x : InputState), s.router.drivenMap[k]? = some e → s.entryState k m = some x →
        t.entryState k m = some (match e.mode with
          | .pulse d => if m = n.val ∧ x.phase = .idle ∧ x.wait = false then ⟨.pulsing d, false⟩ else x
          | .autofire on _ => if m = n.val ∧ x.phase = .idle ∧ x.wait = false then ⟨.on on, false⟩ else x
          | .direct => x
          | .invert => x)) ∧
      (s.scan = 0 ∨ 6 < s.scan → driven t) ∧
      (0 < s.scan → s.scan ≤ 6 → t.router.activePins = s.router.activePins) ∧
      t = { s with router := t.router, pins := t.pins, pages := t.pages } ∧
      t.router = { s.router with
        inputs := t.router.inputs, bounce := t.router.bounce, entries := t.router.entries,
        activePins := t.router.activePins } ∧
      OnlyMarks s t) ∧
  (∀ s : State, s.router.service = false → s.ho.onAir = none → s.credit.bank < 9999 →
    ∃ t, exec (.lineActivation .service) s = .next t ∧ t.router.service = true ∧
      t.credit = { s.credit with bank := s.credit.bank + 1, granted := s.credit.granted + 1 } ∧
      t = { s with router := t.router, pins := t.pins, credit := t.credit, pages := t.pages } ∧ OnlyMarks s t) ∧
  (∀ (s : State) (l : Line), s.router.lineActive l = true →
    ∃ t, exec (.lineRelease l) s = .next t ∧ t.router.lineActive l = false ∧
      (∀ l', l' ≠ l → t.router.lineActive l' = s.router.lineActive l') ∧
      (s.scan = 0 ∨ 6 < s.scan → driven t) ∧
      (0 < s.scan → s.scan ≤ 5 → t.router.chordFreeze = s.router.chordFreeze ∧
        t.router.chordLatch = s.router.chordLatch ∧ t.router.activePins = s.router.activePins) ∧
      t = { s with router := t.router, pins := t.pins, pages := t.pages } ∧ OnlyMarks s t) ∧
  (∀ s : State, s.pending = [] → s.scan = 6 → ∃ t, Machine.step s = .next t ∧ driven t ∧ t.scan = 7 ∧
    t.router = { s.router with activePins := t.router.activePins } ∧
    t = { s with router := t.router, credit := t.credit, pages := t.pages, pending := t.pending, scan := t.scan } ∧
    OnlyMarks s t)

/-- The ends of entry phases (R152, R153): a pulse becomes idle, an on phase is followed by the off time and an off
phase by the on time; every other entry state and every other part of the state but the pins driven stands, and these
too while a scan has them still to compute (R142; assumption 40). -/
def Obligations.EntryPhasesEnd : Prop :=
  ∀ (s : State) (k : Nat) (n : Fin 32) (e : MapEntry) (x : InputState), s.router.drivenMap[k]? = some e →
    s.entryState k n.val = some x →
    ∀ (command : Instr) (next : EntryPhase),
      ((∃ left, x.phase = .pulsing left ∧ command = .pulseEntryEnd k n ∧ next = .idle) ∨
        (∃ left a b, x.phase = .on left ∧ e.mode = .autofire a b ∧ command = .autofireOnEnd k n ∧ next = .off b) ∨
        (∃ left a b, x.phase = .off left ∧ e.mode = .autofire a b ∧ command = .autofireOffEnd k n ∧ next = .on a)) →
      ∃ t, exec command s = .next t ∧ t.entryState k n.val = some ⟨next, x.wait⟩ ∧
        (∀ k' m, k' ≠ k ∨ m ≠ n.val → t.entryState k' m = s.entryState k' m) ∧
        t.router = { s.router with entries := t.router.entries, activePins := t.router.activePins } ∧
        (0 < s.scan → s.scan ≤ 6 → t.router.activePins = s.router.activePins) ∧
        t = { s with router := t.router, pages := t.pages } ∧ OnlyMarks s t

/-- The exit chord (R156, R157, R122): NOTICE bit 10, the latch and the freeze, the pins idle and the timer 0; with
RETURN, here at a level above 0 with a ramp, a FALLBACK with reason CHORD enters FADE_OUT and the freeze ends. -/
def Obligations.ExitChordDetected : Prop :=
  ∀ (s : State) (i : Slot), s.ho.onAir = some (.slot i) → s.ho.phase = .quiet → s.router.restartHold = false →
    s.router.chordLatch = false → s.router.inputs &&& s.router.chordMask = s.router.chordMask →
    (s.router.chordReturn = false →
      ∃ t, exec .exitChord s = .next t ∧ t.intake = { s.intake with notice := s.intake.notice ||| 0x0400 } ∧
        t.router = { s.router with
          chordLatch := true, chordFreeze := true, chordTimer := 0, activePins := 0,
          entries := resetEntries s.router.inputs s.router.drivenMap } ∧
        t.pages.cabinet.mark = true ∧
        t = { s with router := t.router, intake := t.intake, pages := t.pages } ∧ OnlyMarks s t) ∧
    (s.router.chordReturn = true → 0 < s.audio.current → 0 < s.audio.ramp →
      ∃ t, exec .exitChord s = .next t ∧ t.intake = { s.intake with notice := s.intake.notice ||| 0x0400 } ∧
        t.ho = { s.ho with
          phase := .fadeOut, kind := .fallback, outgoing := some (.slot i), target := some .menu, active := none,
          frames := 0, rough := false, cutFeed := false, carry := 0, cancelled := false, lastFallback := .chord,
          outgoingFeed := s.credit.feed.get i } ∧
        t.router = { s.router with
          driven := none, entries := [], activePins := 0, chordFreeze := false, chordLatch := true, chordTimer := 0 } ∧
        t.audio = { s.audio with target := 0 } ∧ t.credit.feed.get i = false ∧ t.credit.pending.get i = 0 ∧
        t = { s with
          router := t.router, intake := t.intake, ho := t.ho, audio := t.audio, credit := t.credit,
          raster := t.raster, pages := t.pages } ∧
        t.raster = { s.raster with cutArm := none } ∧ OnlyMarks s t)

/-! ### The credit unit and the audio level unit -/

/-- A coin line (R159 to R162): an idle line sampled active measures from width 1; a pulse of a width from the minimum
to the maximum is a coin, here worth one unit that goes to the bank with no source on air; a narrower one is ignored;
one sampled active beyond the maximum jams the line with NOTICE bit 12, and the jam ends uncounted. That a pulse which
has ended wider than the maximum, and is not jammed, goes uncounted with no jam is the model's reading (assumption 19). -/
def Obligations.CoinLineMeasures : Prop :=
  ∀ (s : State) (l : CoinLine),
    (s.credit.line l = .idle → ∃ t, exec (.coinMeasuringBegins l) s = .next t ∧
      t.credit = s.credit.setLine l (.measuring 1) ∧
      t = { s with credit := t.credit, router := t.router, pins := t.pins, pages := t.pages } ∧ OnlyMarks s t) ∧
    (∀ w, s.credit.line l = .measuring w → s.credit.setup.minWidth ≤ w → w ≤ s.credit.setup.maxWidth →
      s.credit.setup.value l = 1 → s.ho.onAir = none → s.credit.bank < 9999 →
      ∃ t, exec (.coinPulseEnd l) s = .next t ∧
        t.credit = { s.credit.setLine l .idle with
          coins := s.credit.coins + 1, meterPending := min 65535 (s.credit.meterPending + 1),
          bank := s.credit.bank + 1 } ∧
        t = { s with credit := t.credit, router := t.router, pins := t.pins, pages := t.pages } ∧ OnlyMarks s t) ∧
    ((∃ w, s.credit.line l = .measuring w ∧ (w < s.credit.setup.minWidth ∨ s.credit.setup.maxWidth < w)) ∨
        s.credit.line l = .jammed →
      ∃ t, exec (.coinPulseEnd l) s = .next t ∧ t.credit = s.credit.setLine l .idle ∧
        t = { s with credit := t.credit, router := t.router, pins := t.pins, pages := t.pages } ∧ OnlyMarks s t) ∧
    (∀ w, s.credit.line l = .measuring w → s.credit.setup.maxWidth < w → ∃ t, exec (.coinJam l) s = .next t ∧
      t.credit = s.credit.setLine l .jammed ∧ t.credit.jam = true ∧
      t.intake = { s.intake with notice := s.intake.notice ||| 0x1000 } ∧
      t = { s with credit := t.credit, intake := t.intake, router := t.router, pins := t.pins, pages := t.pages } ∧
      OnlyMarks s t)

/-- Coin pulses and meter pulses (R166, R169): a start delivers one unit with the descriptor's times, or takes one from
the meter pending count with the times in force; the on time is followed by the off time, and then no pulse is in
flight. -/
def Obligations.PulsesRun : Prop :=
  ∀ s : State,
    (∀ (i : Slot) (d : Descriptor), 0 < s.credit.pending.get i → s.ho.onAir = some (.slot i) →
      s.credit.pulses.get i = none → s.copy i = some d →
      ∃ t, exec (.coinPulseStart i) s = .next t ∧
        t.credit = { s.credit with
          pending := s.credit.pending.set i (s.credit.pending.get i - 1),
          delivered := s.credit.delivered.set i (s.credit.delivered.get i + 1),
          deliveredTotal := s.credit.deliveredTotal + 1,
          pulses := s.credit.pulses.set i (some (.on d.coinOn d.coinOff)) } ∧
        t.coinPinHigh i = d.activeHigh ∧ t = { s with credit := t.credit, pages := t.pages } ∧ OnlyMarks s t) ∧
    (∀ (i : Slot) (left off : Nat), s.credit.pulses.get i = some (.on left off) →
      ∃ t, exec (.coinPulseOnEnd i) s = .next t ∧
        t.credit = { s.credit with pulses := s.credit.pulses.set i (some (.off off)) } ∧
        t = { s with credit := t.credit, pages := t.pages } ∧ OnlyMarks s t) ∧
    (∀ (i : Slot) (left : Nat), s.credit.pulses.get i = some (.off left) →
      ∃ t, exec (.coinPulseOffEnd i) s = .next t ∧
        t.credit = { s.credit with pulses := s.credit.pulses.set i none } ∧
        t = { s with credit := t.credit, pages := t.pages } ∧ OnlyMarks s t) ∧
    (0 < s.credit.meterPending → s.credit.meter = none → ∃ t, exec .meterPulseStart s = .next t ∧
      t.credit = { s.credit with
        meterPending := s.credit.meterPending - 1,
        meter := some (.on s.credit.setup.meterOn s.credit.setup.meterOff) } ∧
      t.meterDriven = true ∧ t = { s with credit := t.credit, pages := t.pages } ∧ OnlyMarks s t) ∧
    (∀ left off, s.credit.meter = some (.on left off) → ∃ t, exec .meterPulseOnEnd s = .next t ∧
      t.credit = { s.credit with meter := some (.off off) } ∧ t.meterDriven = false ∧
      t = { s with credit := t.credit, pages := t.pages } ∧ OnlyMarks s t) ∧
    (∀ left, s.credit.meter = some (.off left) → ∃ t, exec .meterPulseOffEnd s = .next t ∧
      t.credit = { s.credit with meter := none } ∧ t = { s with credit := t.credit, pages := t.pages } ∧
      OnlyMarks s t)

/-- A ramp step with the crosspoint on the wanted selection (R105, R113, R126, R179, R180): the level moves toward the
target by R, or by what remains when that is smaller. Outside FADE_OUT and FADE_IN, and short of the target, that is
all. A step that brings FADE_OUT to level 0 enters RELEASE, with the release timer started at 100 ms and the generator
in PASS ordered to release the outgoing. A step that reaches the target in FADE_IN, here with the source on air in
stable sync and no job waiting, returns the phase to QUIET and completes the active job OK with its flags, the source,
the frame count, the evicted mask and the units carried, or with 0x8000 and the source after a cancel. -/
def Obligations.RampStepMoves : Prop :=
  ∀ s : State, s.audio.crosspoint = s.audio.wanted → s.audio.current ≠ s.audio.target → 0 < s.audio.ramp →
    let level := if s.audio.current < s.audio.target then min s.audio.target (s.audio.current + s.audio.ramp)
      else max s.audio.target (s.audio.current - s.audio.ramp)
    (s.ho.phase ≠ .fadeOut ∧ s.ho.phase ≠ .fadeIn ∨ level ≠ s.audio.target →
      ∃ t, exec .rampStep s = .next t ∧ t.audio = { s.audio with current := level } ∧
        t = { s with audio := t.audio, pages := t.pages } ∧ OnlyMarks s t) ∧
    (s.ho.phase = .fadeOut → s.audio.target = 0 → level = 0 → s.raster.mode = .pass →
      ∃ t, exec .rampStep s = .next t ∧ t.audio = { s.audio with current := 0 } ∧
        t.ho = { s.ho with phase := .release, releaseTimer := some 100 } ∧
        t.raster = { s.raster with cutArm := none, releaseOrder := s.ho.outgoing } ∧
        t = { s with audio := t.audio, ho := t.ho, raster := t.raster, pages := t.pages } ∧ OnlyMarks s t) ∧
    (∀ src, s.ho.phase = .fadeIn → level = s.audio.target → s.ho.onAir = some src → s.ho.waiting = none →
      (src = .menu → (s.record .menu).stable = true) → (∀ i, src = .slot i → (s.slot i).state ≠ .lost) →
      s.window.wf = true → Held s (s.ho.active.toList.map SwitchJob.cell) →
      ∃ t, exec .rampStep s = .next t ∧ t.audio = { s.audio with current := s.audio.target } ∧
        JobsEnd s t s.intake (s.ho.active.toList.map fun a =>
          if s.ho.cancelled then ⟨a.cell, .ok, 0x8000, [src.number, 0, 0, 0]⟩
          else ⟨a.cell, .ok,
            (if s.ho.rough then 1 else 0) + (if s.ho.cold then 2 else 0) + (if s.ho.fromHold then 4 else 0),
            [src.number, s.ho.frames, s.ho.evicted.toNat, s.ho.carried]⟩) ∧
        t.ho = { s.ho with
          phase := .quiet, kind := .none, outgoing := none, target := none, active := none, frames := 0,
          rough := false, cold := false, fromHold := false, cancelled := false, releaseTimer := none } ∧
        t.raster = { s.raster with cutArm := none } ∧
        t = { s with
          audio := t.audio, window := t.window, intake := t.intake, ho := t.ho, raster := t.raster,
          pages := t.pages })
end

