-- ==== Sys2Proof/Laws/State.lean ====
section
/-! SUPPORT. One lemma per field per record update of the machine, each true by rfl: a proof about a field passes through
the updates that leave it alone without unfolding them. -/

namespace Sys2Proof.Machine

/-! ### writeMem -/

@[simp] theorem State.writeMem_pending (s : State) (addr : Nat) (vs : List Word) : (s.writeMem addr vs).pending = s.pending := rfl
@[simp] theorem State.writeMem_window (s : State) (addr : Nat) (vs : List Word) :
    (s.writeMem addr vs).window = s.window.writeAll addr vs := rfl
@[simp] theorem State.writeMem_intake (s : State) (addr : Nat) (vs : List Word) : (s.writeMem addr vs).intake = s.intake := rfl
@[simp] theorem State.writeMem_pages (s : State) (addr : Nat) (vs : List Word) : (s.writeMem addr vs).pages = s.pages := rfl
@[simp] theorem State.writeMem_slots (s : State) (addr : Nat) (vs : List Word) : (s.writeMem addr vs).slots = s.slots := rfl
@[simp] theorem State.writeMem_warm (s : State) (addr : Nat) (vs : List Word) : (s.writeMem addr vs).warm = s.warm := rfl
@[simp] theorem State.writeMem_budget (s : State) (addr : Nat) (vs : List Word) : (s.writeMem addr vs).budget = s.budget := rfl
@[simp] theorem State.writeMem_bus (s : State) (addr : Nat) (vs : List Word) : (s.writeMem addr vs).bus = s.bus := rfl
@[simp] theorem State.writeMem_sync (s : State) (addr : Nat) (vs : List Word) : (s.writeMem addr vs).sync = s.sync := rfl
@[simp] theorem State.writeMem_raster (s : State) (addr : Nat) (vs : List Word) : (s.writeMem addr vs).raster = s.raster := rfl
@[simp] theorem State.writeMem_ho (s : State) (addr : Nat) (vs : List Word) : (s.writeMem addr vs).ho = s.ho := rfl
@[simp] theorem State.writeMem_router (s : State) (addr : Nat) (vs : List Word) : (s.writeMem addr vs).router = s.router := rfl
@[simp] theorem State.writeMem_credit (s : State) (addr : Nat) (vs : List Word) : (s.writeMem addr vs).credit = s.credit := rfl
@[simp] theorem State.writeMem_audio (s : State) (addr : Nat) (vs : List Word) : (s.writeMem addr vs).audio = s.audio := rfl
@[simp] theorem State.writeMem_pins (s : State) (addr : Nat) (vs : List Word) : (s.writeMem addr vs).pins = s.pins := rfl
@[simp] theorem State.writeMem_scan (s : State) (addr : Nat) (vs : List Word) : (s.writeMem addr vs).scan = s.scan := rfl

/-! ### setCell -/

@[simp] theorem State.setCell_pending (s : State) (c : CellNo) (st : CellState) : (s.setCell c st).pending = s.pending := rfl
@[simp] theorem State.setCell_window (s : State) (c : CellNo) (st : CellState) : (s.setCell c st).window = s.window := rfl
@[simp] theorem State.setCell_intake (s : State) (c : CellNo) (st : CellState) :
    (s.setCell c st).intake = { s.intake with cells := s.intake.cells.set c st } := rfl
@[simp] theorem State.setCell_pages (s : State) (c : CellNo) (st : CellState) : (s.setCell c st).pages = s.pages := rfl
@[simp] theorem State.setCell_slots (s : State) (c : CellNo) (st : CellState) : (s.setCell c st).slots = s.slots := rfl
@[simp] theorem State.setCell_warm (s : State) (c : CellNo) (st : CellState) : (s.setCell c st).warm = s.warm := rfl
@[simp] theorem State.setCell_budget (s : State) (c : CellNo) (st : CellState) : (s.setCell c st).budget = s.budget := rfl
@[simp] theorem State.setCell_bus (s : State) (c : CellNo) (st : CellState) : (s.setCell c st).bus = s.bus := rfl
@[simp] theorem State.setCell_sync (s : State) (c : CellNo) (st : CellState) : (s.setCell c st).sync = s.sync := rfl
@[simp] theorem State.setCell_raster (s : State) (c : CellNo) (st : CellState) : (s.setCell c st).raster = s.raster := rfl
@[simp] theorem State.setCell_ho (s : State) (c : CellNo) (st : CellState) : (s.setCell c st).ho = s.ho := rfl
@[simp] theorem State.setCell_router (s : State) (c : CellNo) (st : CellState) : (s.setCell c st).router = s.router := rfl
@[simp] theorem State.setCell_credit (s : State) (c : CellNo) (st : CellState) : (s.setCell c st).credit = s.credit := rfl
@[simp] theorem State.setCell_audio (s : State) (c : CellNo) (st : CellState) : (s.setCell c st).audio = s.audio := rfl
@[simp] theorem State.setCell_pins (s : State) (c : CellNo) (st : CellState) : (s.setCell c st).pins = s.pins := rfl
@[simp] theorem State.setCell_scan (s : State) (c : CellNo) (st : CellState) : (s.setCell c st).scan = s.scan := rfl

/-! ### setNotice -/

@[simp] theorem State.setNotice_pending (s : State) (n : Nat) : (s.setNotice n).pending = s.pending := rfl
@[simp] theorem State.setNotice_window (s : State) (n : Nat) : (s.setNotice n).window = s.window := rfl
@[simp] theorem State.setNotice_intake (s : State) (n : Nat) :
    (s.setNotice n).intake = { s.intake with notice := s.intake.notice ||| (1#16 <<< n) } := rfl
@[simp] theorem State.setNotice_pages (s : State) (n : Nat) : (s.setNotice n).pages = s.pages := rfl
@[simp] theorem State.setNotice_slots (s : State) (n : Nat) : (s.setNotice n).slots = s.slots := rfl
@[simp] theorem State.setNotice_warm (s : State) (n : Nat) : (s.setNotice n).warm = s.warm := rfl
@[simp] theorem State.setNotice_budget (s : State) (n : Nat) : (s.setNotice n).budget = s.budget := rfl
@[simp] theorem State.setNotice_bus (s : State) (n : Nat) : (s.setNotice n).bus = s.bus := rfl
@[simp] theorem State.setNotice_sync (s : State) (n : Nat) : (s.setNotice n).sync = s.sync := rfl
@[simp] theorem State.setNotice_raster (s : State) (n : Nat) : (s.setNotice n).raster = s.raster := rfl
@[simp] theorem State.setNotice_ho (s : State) (n : Nat) : (s.setNotice n).ho = s.ho := rfl
@[simp] theorem State.setNotice_router (s : State) (n : Nat) : (s.setNotice n).router = s.router := rfl
@[simp] theorem State.setNotice_credit (s : State) (n : Nat) : (s.setNotice n).credit = s.credit := rfl
@[simp] theorem State.setNotice_audio (s : State) (n : Nat) : (s.setNotice n).audio = s.audio := rfl
@[simp] theorem State.setNotice_pins (s : State) (n : Nat) : (s.setNotice n).pins = s.pins := rfl
@[simp] theorem State.setNotice_scan (s : State) (n : Nat) : (s.setNotice n).scan = s.scan := rfl

/-! ### mark -/

@[simp] theorem State.mark_pending (s : State) (id : PageId) : (s.mark id).pending = s.pending := rfl
@[simp] theorem State.mark_window (s : State) (id : PageId) : (s.mark id).window = s.window := rfl
@[simp] theorem State.mark_intake (s : State) (id : PageId) : (s.mark id).intake = s.intake := rfl
@[simp] theorem State.mark_pages (s : State) (id : PageId) :
    (s.mark id).pages = s.pages.set id (s.pages.get id).marked := rfl
@[simp] theorem State.mark_slots (s : State) (id : PageId) : (s.mark id).slots = s.slots := rfl
@[simp] theorem State.mark_warm (s : State) (id : PageId) : (s.mark id).warm = s.warm := rfl
@[simp] theorem State.mark_budget (s : State) (id : PageId) : (s.mark id).budget = s.budget := rfl
@[simp] theorem State.mark_bus (s : State) (id : PageId) : (s.mark id).bus = s.bus := rfl
@[simp] theorem State.mark_sync (s : State) (id : PageId) : (s.mark id).sync = s.sync := rfl
@[simp] theorem State.mark_raster (s : State) (id : PageId) : (s.mark id).raster = s.raster := rfl
@[simp] theorem State.mark_ho (s : State) (id : PageId) : (s.mark id).ho = s.ho := rfl
@[simp] theorem State.mark_router (s : State) (id : PageId) : (s.mark id).router = s.router := rfl
@[simp] theorem State.mark_credit (s : State) (id : PageId) : (s.mark id).credit = s.credit := rfl
@[simp] theorem State.mark_audio (s : State) (id : PageId) : (s.mark id).audio = s.audio := rfl
@[simp] theorem State.mark_pins (s : State) (id : PageId) : (s.mark id).pins = s.pins := rfl
@[simp] theorem State.mark_scan (s : State) (id : PageId) : (s.mark id).scan = s.scan := rfl

/-! ### markCabinet -/

@[simp] theorem State.markCabinet_pending (s : State) : s.markCabinet.pending = s.pending := rfl
@[simp] theorem State.markCabinet_window (s : State) : s.markCabinet.window = s.window := rfl
@[simp] theorem State.markCabinet_intake (s : State) : s.markCabinet.intake = s.intake := rfl
@[simp] theorem State.markCabinet_pages (s : State) :
    s.markCabinet.pages = { s.pages with cabinet := s.pages.cabinet.marked } := rfl
@[simp] theorem State.markCabinet_slots (s : State) : s.markCabinet.slots = s.slots := rfl
@[simp] theorem State.markCabinet_warm (s : State) : s.markCabinet.warm = s.warm := rfl
@[simp] theorem State.markCabinet_budget (s : State) : s.markCabinet.budget = s.budget := rfl
@[simp] theorem State.markCabinet_bus (s : State) : s.markCabinet.bus = s.bus := rfl
@[simp] theorem State.markCabinet_sync (s : State) : s.markCabinet.sync = s.sync := rfl
@[simp] theorem State.markCabinet_raster (s : State) : s.markCabinet.raster = s.raster := rfl
@[simp] theorem State.markCabinet_ho (s : State) : s.markCabinet.ho = s.ho := rfl
@[simp] theorem State.markCabinet_router (s : State) : s.markCabinet.router = s.router := rfl
@[simp] theorem State.markCabinet_credit (s : State) : s.markCabinet.credit = s.credit := rfl
@[simp] theorem State.markCabinet_audio (s : State) : s.markCabinet.audio = s.audio := rfl
@[simp] theorem State.markCabinet_pins (s : State) : s.markCabinet.pins = s.pins := rfl
@[simp] theorem State.markCabinet_scan (s : State) : s.markCabinet.scan = s.scan := rfl

/-! ### markSource -/

@[simp] theorem State.markSource_pending (s : State) (src : Source) : (s.markSource src).pending = s.pending := rfl
@[simp] theorem State.markSource_window (s : State) (src : Source) : (s.markSource src).window = s.window := rfl
@[simp] theorem State.markSource_intake (s : State) (src : Source) : (s.markSource src).intake = s.intake := rfl
@[simp] theorem State.markSource_pages (s : State) (src : Source) :
    (s.markSource src).pages = s.pages.set (.source src) (s.pages.source.get src).marked := rfl
@[simp] theorem State.markSource_slots (s : State) (src : Source) : (s.markSource src).slots = s.slots := rfl
@[simp] theorem State.markSource_warm (s : State) (src : Source) : (s.markSource src).warm = s.warm := rfl
@[simp] theorem State.markSource_budget (s : State) (src : Source) : (s.markSource src).budget = s.budget := rfl
@[simp] theorem State.markSource_bus (s : State) (src : Source) : (s.markSource src).bus = s.bus := rfl
@[simp] theorem State.markSource_sync (s : State) (src : Source) : (s.markSource src).sync = s.sync := rfl
@[simp] theorem State.markSource_raster (s : State) (src : Source) : (s.markSource src).raster = s.raster := rfl
@[simp] theorem State.markSource_ho (s : State) (src : Source) : (s.markSource src).ho = s.ho := rfl
@[simp] theorem State.markSource_router (s : State) (src : Source) : (s.markSource src).router = s.router := rfl
@[simp] theorem State.markSource_credit (s : State) (src : Source) : (s.markSource src).credit = s.credit := rfl
@[simp] theorem State.markSource_audio (s : State) (src : Source) : (s.markSource src).audio = s.audio := rfl
@[simp] theorem State.markSource_pins (s : State) (src : Source) : (s.markSource src).pins = s.pins := rfl
@[simp] theorem State.markSource_scan (s : State) (src : Source) : (s.markSource src).scan = s.scan := rfl

/-! ### markAll -/

@[simp] theorem State.markAll_pending (s : State) : s.markAll.pending = s.pending := rfl
@[simp] theorem State.markAll_window (s : State) : s.markAll.window = s.window := rfl
@[simp] theorem State.markAll_intake (s : State) : s.markAll.intake = s.intake := rfl
@[simp] theorem State.markAll_slots (s : State) : s.markAll.slots = s.slots := rfl
@[simp] theorem State.markAll_warm (s : State) : s.markAll.warm = s.warm := rfl
@[simp] theorem State.markAll_budget (s : State) : s.markAll.budget = s.budget := rfl
@[simp] theorem State.markAll_bus (s : State) : s.markAll.bus = s.bus := rfl
@[simp] theorem State.markAll_sync (s : State) : s.markAll.sync = s.sync := rfl
@[simp] theorem State.markAll_raster (s : State) : s.markAll.raster = s.raster := rfl
@[simp] theorem State.markAll_ho (s : State) : s.markAll.ho = s.ho := rfl
@[simp] theorem State.markAll_router (s : State) : s.markAll.router = s.router := rfl
@[simp] theorem State.markAll_credit (s : State) : s.markAll.credit = s.credit := rfl
@[simp] theorem State.markAll_audio (s : State) : s.markAll.audio = s.audio := rfl
@[simp] theorem State.markAll_pins (s : State) : s.markAll.pins = s.pins := rfl
@[simp] theorem State.markAll_scan (s : State) : s.markAll.scan = s.scan := rfl

/-! ### take -/

@[simp] theorem State.take_pending (s : State) (c : CellNo) : (s.take c).pending = s.pending := rfl
@[simp] theorem State.take_window (s : State) (c : CellNo) : (s.take c).window = s.window := rfl
@[simp] theorem State.take_intake (s : State) (c : CellNo) :
    (s.take c).intake = { s.intake with cells := s.intake.cells.set c .taken, list := s.intake.list.tail } := rfl
@[simp] theorem State.take_pages (s : State) (c : CellNo) : (s.take c).pages = s.pages := rfl
@[simp] theorem State.take_slots (s : State) (c : CellNo) : (s.take c).slots = s.slots := rfl
@[simp] theorem State.take_warm (s : State) (c : CellNo) : (s.take c).warm = s.warm := rfl
@[simp] theorem State.take_budget (s : State) (c : CellNo) : (s.take c).budget = s.budget := rfl
@[simp] theorem State.take_bus (s : State) (c : CellNo) : (s.take c).bus = s.bus := rfl
@[simp] theorem State.take_sync (s : State) (c : CellNo) : (s.take c).sync = s.sync := rfl
@[simp] theorem State.take_raster (s : State) (c : CellNo) : (s.take c).raster = s.raster := rfl
@[simp] theorem State.take_ho (s : State) (c : CellNo) : (s.take c).ho = s.ho := rfl
@[simp] theorem State.take_router (s : State) (c : CellNo) : (s.take c).router = s.router := rfl
@[simp] theorem State.take_credit (s : State) (c : CellNo) : (s.take c).credit = s.credit := rfl
@[simp] theorem State.take_audio (s : State) (c : CellNo) : (s.take c).audio = s.audio := rfl
@[simp] theorem State.take_pins (s : State) (c : CellNo) : (s.take c).pins = s.pins := rfl
@[simp] theorem State.take_scan (s : State) (c : CellNo) : (s.take c).scan = s.scan := rfl

/-! ### setRecord -/

@[simp] theorem State.setRecord_pending (s : State) (src : Source) (r : SyncRec) : (s.setRecord src r).pending = s.pending := rfl
@[simp] theorem State.setRecord_window (s : State) (src : Source) (r : SyncRec) : (s.setRecord src r).window = s.window := rfl
@[simp] theorem State.setRecord_intake (s : State) (src : Source) (r : SyncRec) : (s.setRecord src r).intake = s.intake := rfl
@[simp] theorem State.setRecord_pages (s : State) (src : Source) (r : SyncRec) : (s.setRecord src r).pages = s.pages := rfl
@[simp] theorem State.setRecord_slots (s : State) (src : Source) (r : SyncRec) : (s.setRecord src r).slots = s.slots := rfl
@[simp] theorem State.setRecord_warm (s : State) (src : Source) (r : SyncRec) : (s.setRecord src r).warm = s.warm := rfl
@[simp] theorem State.setRecord_budget (s : State) (src : Source) (r : SyncRec) : (s.setRecord src r).budget = s.budget := rfl
@[simp] theorem State.setRecord_bus (s : State) (src : Source) (r : SyncRec) : (s.setRecord src r).bus = s.bus := rfl
@[simp] theorem State.setRecord_sync (s : State) (src : Source) (r : SyncRec) :
    (s.setRecord src r).sync = { s.sync with records := s.sync.records.set src r } := rfl
@[simp] theorem State.setRecord_raster (s : State) (src : Source) (r : SyncRec) : (s.setRecord src r).raster = s.raster := rfl
@[simp] theorem State.setRecord_ho (s : State) (src : Source) (r : SyncRec) : (s.setRecord src r).ho = s.ho := rfl
@[simp] theorem State.setRecord_router (s : State) (src : Source) (r : SyncRec) : (s.setRecord src r).router = s.router := rfl
@[simp] theorem State.setRecord_credit (s : State) (src : Source) (r : SyncRec) : (s.setRecord src r).credit = s.credit := rfl
@[simp] theorem State.setRecord_audio (s : State) (src : Source) (r : SyncRec) : (s.setRecord src r).audio = s.audio := rfl
@[simp] theorem State.setRecord_pins (s : State) (src : Source) (r : SyncRec) : (s.setRecord src r).pins = s.pins := rfl
@[simp] theorem State.setRecord_scan (s : State) (src : Source) (r : SyncRec) : (s.setRecord src r).scan = s.scan := rfl

/-! ### setSlot -/

@[simp] theorem State.setSlot_pending (s : State) (i : Slot) (r : SlotRec) : (s.setSlot i r).pending = s.pending := rfl
@[simp] theorem State.setSlot_window (s : State) (i : Slot) (r : SlotRec) : (s.setSlot i r).window = s.window := rfl
@[simp] theorem State.setSlot_intake (s : State) (i : Slot) (r : SlotRec) : (s.setSlot i r).intake = s.intake := rfl
@[simp] theorem State.setSlot_pages (s : State) (i : Slot) (r : SlotRec) : (s.setSlot i r).pages = s.pages := rfl
@[simp] theorem State.setSlot_slots (s : State) (i : Slot) (r : SlotRec) :
    (s.setSlot i r).slots = s.slots.set i r := rfl
@[simp] theorem State.setSlot_warm (s : State) (i : Slot) (r : SlotRec) : (s.setSlot i r).warm = s.warm := rfl
@[simp] theorem State.setSlot_budget (s : State) (i : Slot) (r : SlotRec) : (s.setSlot i r).budget = s.budget := rfl
@[simp] theorem State.setSlot_bus (s : State) (i : Slot) (r : SlotRec) : (s.setSlot i r).bus = s.bus := rfl
@[simp] theorem State.setSlot_sync (s : State) (i : Slot) (r : SlotRec) : (s.setSlot i r).sync = s.sync := rfl
@[simp] theorem State.setSlot_raster (s : State) (i : Slot) (r : SlotRec) : (s.setSlot i r).raster = s.raster := rfl
@[simp] theorem State.setSlot_ho (s : State) (i : Slot) (r : SlotRec) : (s.setSlot i r).ho = s.ho := rfl
@[simp] theorem State.setSlot_router (s : State) (i : Slot) (r : SlotRec) : (s.setSlot i r).router = s.router := rfl
@[simp] theorem State.setSlot_credit (s : State) (i : Slot) (r : SlotRec) : (s.setSlot i r).credit = s.credit := rfl
@[simp] theorem State.setSlot_audio (s : State) (i : Slot) (r : SlotRec) : (s.setSlot i r).audio = s.audio := rfl
@[simp] theorem State.setSlot_pins (s : State) (i : Slot) (r : SlotRec) : (s.setSlot i r).pins = s.pins := rfl
@[simp] theorem State.setSlot_scan (s : State) (i : Slot) (r : SlotRec) : (s.setSlot i r).scan = s.scan := rfl

/-! ### modSlot -/

@[simp] theorem State.modSlot_pending (s : State) (i : Slot) (f : SlotRec → SlotRec) : (s.modSlot i f).pending = s.pending := rfl
@[simp] theorem State.modSlot_window (s : State) (i : Slot) (f : SlotRec → SlotRec) : (s.modSlot i f).window = s.window := rfl
@[simp] theorem State.modSlot_intake (s : State) (i : Slot) (f : SlotRec → SlotRec) : (s.modSlot i f).intake = s.intake := rfl
@[simp] theorem State.modSlot_pages (s : State) (i : Slot) (f : SlotRec → SlotRec) : (s.modSlot i f).pages = s.pages := rfl
@[simp] theorem State.modSlot_slots (s : State) (i : Slot) (f : SlotRec → SlotRec) :
    (s.modSlot i f).slots = s.slots.set i (f (s.slot i)) := rfl
@[simp] theorem State.modSlot_warm (s : State) (i : Slot) (f : SlotRec → SlotRec) : (s.modSlot i f).warm = s.warm := rfl
@[simp] theorem State.modSlot_budget (s : State) (i : Slot) (f : SlotRec → SlotRec) : (s.modSlot i f).budget = s.budget := rfl
@[simp] theorem State.modSlot_bus (s : State) (i : Slot) (f : SlotRec → SlotRec) : (s.modSlot i f).bus = s.bus := rfl
@[simp] theorem State.modSlot_sync (s : State) (i : Slot) (f : SlotRec → SlotRec) : (s.modSlot i f).sync = s.sync := rfl
@[simp] theorem State.modSlot_raster (s : State) (i : Slot) (f : SlotRec → SlotRec) : (s.modSlot i f).raster = s.raster := rfl
@[simp] theorem State.modSlot_ho (s : State) (i : Slot) (f : SlotRec → SlotRec) : (s.modSlot i f).ho = s.ho := rfl
@[simp] theorem State.modSlot_router (s : State) (i : Slot) (f : SlotRec → SlotRec) : (s.modSlot i f).router = s.router := rfl
@[simp] theorem State.modSlot_credit (s : State) (i : Slot) (f : SlotRec → SlotRec) : (s.modSlot i f).credit = s.credit := rfl
@[simp] theorem State.modSlot_audio (s : State) (i : Slot) (f : SlotRec → SlotRec) : (s.modSlot i f).audio = s.audio := rfl
@[simp] theorem State.modSlot_pins (s : State) (i : Slot) (f : SlotRec → SlotRec) : (s.modSlot i f).pins = s.pins := rfl
@[simp] theorem State.modSlot_scan (s : State) (i : Slot) (f : SlotRec → SlotRec) : (s.modSlot i f).scan = s.scan := rfl

/-! ### setCopy -/

@[simp] theorem State.setCopy_pending (s : State) (i : Slot) (d : Option Descriptor) : (s.setCopy i d).pending = s.pending := rfl
@[simp] theorem State.setCopy_window (s : State) (i : Slot) (d : Option Descriptor) : (s.setCopy i d).window = s.window := rfl
@[simp] theorem State.setCopy_intake (s : State) (i : Slot) (d : Option Descriptor) : (s.setCopy i d).intake = s.intake := rfl
@[simp] theorem State.setCopy_pages (s : State) (i : Slot) (d : Option Descriptor) : (s.setCopy i d).pages = s.pages := rfl
@[simp] theorem State.setCopy_slots (s : State) (i : Slot) (d : Option Descriptor) : (s.setCopy i d).slots = s.slots := rfl
@[simp] theorem State.setCopy_warm (s : State) (i : Slot) (d : Option Descriptor) : (s.setCopy i d).warm = s.warm := rfl
@[simp] theorem State.setCopy_budget (s : State) (i : Slot) (d : Option Descriptor) : (s.setCopy i d).budget = s.budget := rfl
@[simp] theorem State.setCopy_bus (s : State) (i : Slot) (d : Option Descriptor) :
    (s.setCopy i d).bus = { s.bus with copies := s.bus.copies.set i d } := rfl
@[simp] theorem State.setCopy_sync (s : State) (i : Slot) (d : Option Descriptor) : (s.setCopy i d).sync = s.sync := rfl
@[simp] theorem State.setCopy_raster (s : State) (i : Slot) (d : Option Descriptor) : (s.setCopy i d).raster = s.raster := rfl
@[simp] theorem State.setCopy_ho (s : State) (i : Slot) (d : Option Descriptor) : (s.setCopy i d).ho = s.ho := rfl
@[simp] theorem State.setCopy_router (s : State) (i : Slot) (d : Option Descriptor) : (s.setCopy i d).router = s.router := rfl
@[simp] theorem State.setCopy_credit (s : State) (i : Slot) (d : Option Descriptor) : (s.setCopy i d).credit = s.credit := rfl
@[simp] theorem State.setCopy_audio (s : State) (i : Slot) (d : Option Descriptor) : (s.setCopy i d).audio = s.audio := rfl
@[simp] theorem State.setCopy_pins (s : State) (i : Slot) (d : Option Descriptor) : (s.setCopy i d).pins = s.pins := rfl
@[simp] theorem State.setCopy_scan (s : State) (i : Slot) (d : Option Descriptor) : (s.setCopy i d).scan = s.scan := rfl

/-! ### setUndescribed -/

@[simp] theorem State.setUndescribed_pending (s : State) (i : Slot) (u : Undescribed) : (s.setUndescribed i u).pending = s.pending := rfl
@[simp] theorem State.setUndescribed_window (s : State) (i : Slot) (u : Undescribed) : (s.setUndescribed i u).window = s.window := rfl
@[simp] theorem State.setUndescribed_intake (s : State) (i : Slot) (u : Undescribed) : (s.setUndescribed i u).intake = s.intake := rfl
@[simp] theorem State.setUndescribed_pages (s : State) (i : Slot) (u : Undescribed) : (s.setUndescribed i u).pages = s.pages := rfl
@[simp] theorem State.setUndescribed_slots (s : State) (i : Slot) (u : Undescribed) : (s.setUndescribed i u).slots = s.slots := rfl
@[simp] theorem State.setUndescribed_warm (s : State) (i : Slot) (u : Undescribed) : (s.setUndescribed i u).warm = s.warm := rfl
@[simp] theorem State.setUndescribed_budget (s : State) (i : Slot) (u : Undescribed) : (s.setUndescribed i u).budget = s.budget := rfl
@[simp] theorem State.setUndescribed_bus (s : State) (i : Slot) (u : Undescribed) :
    (s.setUndescribed i u).bus = { s.bus with undescribed := s.bus.undescribed.set i u } := rfl
@[simp] theorem State.setUndescribed_sync (s : State) (i : Slot) (u : Undescribed) : (s.setUndescribed i u).sync = s.sync := rfl
@[simp] theorem State.setUndescribed_raster (s : State) (i : Slot) (u : Undescribed) : (s.setUndescribed i u).raster = s.raster := rfl
@[simp] theorem State.setUndescribed_ho (s : State) (i : Slot) (u : Undescribed) : (s.setUndescribed i u).ho = s.ho := rfl
@[simp] theorem State.setUndescribed_router (s : State) (i : Slot) (u : Undescribed) : (s.setUndescribed i u).router = s.router := rfl
@[simp] theorem State.setUndescribed_credit (s : State) (i : Slot) (u : Undescribed) : (s.setUndescribed i u).credit = s.credit := rfl
@[simp] theorem State.setUndescribed_audio (s : State) (i : Slot) (u : Undescribed) : (s.setUndescribed i u).audio = s.audio := rfl
@[simp] theorem State.setUndescribed_pins (s : State) (i : Slot) (u : Undescribed) : (s.setUndescribed i u).pins = s.pins := rfl
@[simp] theorem State.setUndescribed_scan (s : State) (i : Slot) (u : Undescribed) : (s.setUndescribed i u).scan = s.scan := rfl

/-! ### setStale -/

@[simp] theorem State.setStale_pending (s : State) (i : Slot) (b : Bool) : (s.setStale i b).pending = s.pending := rfl
@[simp] theorem State.setStale_window (s : State) (i : Slot) (b : Bool) : (s.setStale i b).window = s.window := rfl
@[simp] theorem State.setStale_intake (s : State) (i : Slot) (b : Bool) : (s.setStale i b).intake = s.intake := rfl
@[simp] theorem State.setStale_pages (s : State) (i : Slot) (b : Bool) : (s.setStale i b).pages = s.pages := rfl
@[simp] theorem State.setStale_slots (s : State) (i : Slot) (b : Bool) : (s.setStale i b).slots = s.slots := rfl
@[simp] theorem State.setStale_warm (s : State) (i : Slot) (b : Bool) : (s.setStale i b).warm = s.warm := rfl
@[simp] theorem State.setStale_budget (s : State) (i : Slot) (b : Bool) : (s.setStale i b).budget = s.budget := rfl
@[simp] theorem State.setStale_bus (s : State) (i : Slot) (b : Bool) :
    (s.setStale i b).bus = { s.bus with stale := s.bus.stale.set i b } := rfl
@[simp] theorem State.setStale_sync (s : State) (i : Slot) (b : Bool) : (s.setStale i b).sync = s.sync := rfl
@[simp] theorem State.setStale_raster (s : State) (i : Slot) (b : Bool) : (s.setStale i b).raster = s.raster := rfl
@[simp] theorem State.setStale_ho (s : State) (i : Slot) (b : Bool) : (s.setStale i b).ho = s.ho := rfl
@[simp] theorem State.setStale_router (s : State) (i : Slot) (b : Bool) : (s.setStale i b).router = s.router := rfl
@[simp] theorem State.setStale_credit (s : State) (i : Slot) (b : Bool) : (s.setStale i b).credit = s.credit := rfl
@[simp] theorem State.setStale_audio (s : State) (i : Slot) (b : Bool) : (s.setStale i b).audio = s.audio := rfl
@[simp] theorem State.setStale_pins (s : State) (i : Slot) (b : Bool) : (s.setStale i b).pins = s.pins := rfl
@[simp] theorem State.setStale_scan (s : State) (i : Slot) (b : Bool) : (s.setStale i b).scan = s.scan := rfl

/-! ### enqueue -/

@[simp] theorem State.enqueue_pending (s : State) (q : BusRequest) : (s.enqueue q).pending = s.pending := rfl
@[simp] theorem State.enqueue_window (s : State) (q : BusRequest) : (s.enqueue q).window = s.window := rfl
@[simp] theorem State.enqueue_intake (s : State) (q : BusRequest) : (s.enqueue q).intake = s.intake := rfl
@[simp] theorem State.enqueue_pages (s : State) (q : BusRequest) : (s.enqueue q).pages = s.markCabinet.pages := rfl
@[simp] theorem State.enqueue_slots (s : State) (q : BusRequest) : (s.enqueue q).slots = s.slots := rfl
@[simp] theorem State.enqueue_warm (s : State) (q : BusRequest) : (s.enqueue q).warm = s.warm := rfl
@[simp] theorem State.enqueue_budget (s : State) (q : BusRequest) : (s.enqueue q).budget = s.budget := rfl
@[simp] theorem State.enqueue_bus (s : State) (q : BusRequest) :
    (s.enqueue q).bus = { s.bus with queue := s.bus.queue ++ [q] } := rfl
@[simp] theorem State.enqueue_sync (s : State) (q : BusRequest) : (s.enqueue q).sync = s.sync := rfl
@[simp] theorem State.enqueue_raster (s : State) (q : BusRequest) : (s.enqueue q).raster = s.raster := rfl
@[simp] theorem State.enqueue_ho (s : State) (q : BusRequest) : (s.enqueue q).ho = s.ho := rfl
@[simp] theorem State.enqueue_router (s : State) (q : BusRequest) : (s.enqueue q).router = s.router := rfl
@[simp] theorem State.enqueue_credit (s : State) (q : BusRequest) : (s.enqueue q).credit = s.credit := rfl
@[simp] theorem State.enqueue_audio (s : State) (q : BusRequest) : (s.enqueue q).audio = s.audio := rfl
@[simp] theorem State.enqueue_pins (s : State) (q : BusRequest) : (s.enqueue q).pins = s.pins := rfl
@[simp] theorem State.enqueue_scan (s : State) (q : BusRequest) : (s.enqueue q).scan = s.scan := rfl

/-! ### dequeue -/

@[simp] theorem State.dequeue_pending (s : State) : s.dequeue.pending = s.pending := rfl
@[simp] theorem State.dequeue_window (s : State) : s.dequeue.window = s.window := rfl
@[simp] theorem State.dequeue_intake (s : State) : s.dequeue.intake = s.intake := rfl
@[simp] theorem State.dequeue_pages (s : State) : s.dequeue.pages = s.markCabinet.pages := rfl
@[simp] theorem State.dequeue_slots (s : State) : s.dequeue.slots = s.slots := rfl
@[simp] theorem State.dequeue_warm (s : State) : s.dequeue.warm = s.warm := rfl
@[simp] theorem State.dequeue_budget (s : State) : s.dequeue.budget = s.budget := rfl
@[simp] theorem State.dequeue_bus (s : State) :
    s.dequeue.bus = { s.bus with queue := s.bus.queue.tail, phase := .idle, stopping := false } := rfl
@[simp] theorem State.dequeue_sync (s : State) : s.dequeue.sync = s.sync := rfl
@[simp] theorem State.dequeue_raster (s : State) : s.dequeue.raster = s.raster := rfl
@[simp] theorem State.dequeue_ho (s : State) : s.dequeue.ho = s.ho := rfl
@[simp] theorem State.dequeue_router (s : State) : s.dequeue.router = s.router := rfl
@[simp] theorem State.dequeue_credit (s : State) : s.dequeue.credit = s.credit := rfl
@[simp] theorem State.dequeue_audio (s : State) : s.dequeue.audio = s.audio := rfl
@[simp] theorem State.dequeue_pins (s : State) : s.dequeue.pins = s.pins := rfl
@[simp] theorem State.dequeue_scan (s : State) : s.dequeue.scan = s.scan := rfl

/-! ### toCooling -/

@[simp] theorem State.toCooling_pending (s : State) (i : Slot) : (s.toCooling i).pending = s.pending := rfl
@[simp] theorem State.toCooling_window (s : State) (i : Slot) : (s.toCooling i).window = s.window := rfl
@[simp] theorem State.toCooling_intake (s : State) (i : Slot) : (s.toCooling i).intake = s.intake := rfl
@[simp] theorem State.toCooling_pages (s : State) (i : Slot) : (s.toCooling i).pages = s.pages := rfl
@[simp] theorem State.toCooling_slots (s : State) (i : Slot) :
    (s.toCooling i).slots = s.slots.set i { (s.slot i).stopTimers with state := .cooling, cool := some (s.figure i Descriptor.cool * 100), powerUp := none } := rfl
@[simp] theorem State.toCooling_warm (s : State) (i : Slot) : (s.toCooling i).warm = s.warm.erase i := rfl
@[simp] theorem State.toCooling_budget (s : State) (i : Slot) : (s.toCooling i).budget = s.budget := rfl
@[simp] theorem State.toCooling_bus (s : State) (i : Slot) : (s.toCooling i).bus = s.bus := rfl
@[simp] theorem State.toCooling_sync (s : State) (i : Slot) : (s.toCooling i).sync = s.sync := rfl
@[simp] theorem State.toCooling_raster (s : State) (i : Slot) : (s.toCooling i).raster = s.raster := rfl
@[simp] theorem State.toCooling_ho (s : State) (i : Slot) : (s.toCooling i).ho = s.ho := rfl
@[simp] theorem State.toCooling_router (s : State) (i : Slot) : (s.toCooling i).router = s.router := rfl
@[simp] theorem State.toCooling_credit (s : State) (i : Slot) : (s.toCooling i).credit = s.credit := rfl
@[simp] theorem State.toCooling_audio (s : State) (i : Slot) : (s.toCooling i).audio = s.audio := rfl
@[simp] theorem State.toCooling_pins (s : State) (i : Slot) : (s.toCooling i).pins = s.pins := rfl
@[simp] theorem State.toCooling_scan (s : State) (i : Slot) : (s.toCooling i).scan = s.scan := rfl

/-! ### applyPower -/

@[simp] theorem State.applyPower_pending (s : State) (i : Slot) : (s.applyPower i).pending = s.pending := rfl
@[simp] theorem State.applyPower_window (s : State) (i : Slot) : (s.applyPower i).window = s.window := rfl
@[simp] theorem State.applyPower_intake (s : State) (i : Slot) : (s.applyPower i).intake = s.intake := rfl
@[simp] theorem State.applyPower_pages (s : State) (i : Slot) : (s.applyPower i).pages = s.pages := rfl
@[simp] theorem State.applyPower_slots (s : State) (i : Slot) :
    (s.applyPower i).slots = s.slots.set i { (s.slot i).stopTimers with state := .settling, settle := some (s.figure i Descriptor.settle * 10), overCount := 0 } := rfl
@[simp] theorem State.applyPower_warm (s : State) (i : Slot) : (s.applyPower i).warm = i :: s.warm.erase i := rfl
@[simp] theorem State.applyPower_budget (s : State) (i : Slot) : (s.applyPower i).budget = s.budget := rfl
@[simp] theorem State.applyPower_bus (s : State) (i : Slot) : (s.applyPower i).bus = s.bus := rfl
@[simp] theorem State.applyPower_sync (s : State) (i : Slot) : (s.applyPower i).sync = s.sync := rfl
@[simp] theorem State.applyPower_raster (s : State) (i : Slot) : (s.applyPower i).raster = s.raster := rfl
@[simp] theorem State.applyPower_ho (s : State) (i : Slot) : (s.applyPower i).ho = s.ho := rfl
@[simp] theorem State.applyPower_router (s : State) (i : Slot) : (s.applyPower i).router = s.router := rfl
@[simp] theorem State.applyPower_credit (s : State) (i : Slot) : (s.applyPower i).credit = s.credit := rfl
@[simp] theorem State.applyPower_audio (s : State) (i : Slot) : (s.applyPower i).audio = s.audio := rfl
@[simp] theorem State.applyPower_pins (s : State) (i : Slot) : (s.applyPower i).pins = s.pins := rfl
@[simp] theorem State.applyPower_scan (s : State) (i : Slot) : (s.applyPower i).scan = s.scan := rfl

/-! ### setReason -/

@[simp] theorem State.setReason_pending (s : State) (i : Slot) (f : FailReason) : (s.setReason i f).pending = s.pending := rfl
@[simp] theorem State.setReason_window (s : State) (i : Slot) (f : FailReason) : (s.setReason i f).window = s.window := rfl
@[simp] theorem State.setReason_intake (s : State) (i : Slot) (f : FailReason) : (s.setReason i f).intake = s.intake := rfl
@[simp] theorem State.setReason_pages (s : State) (i : Slot) (f : FailReason) : (s.setReason i f).pages = s.pages := rfl
@[simp] theorem State.setReason_slots (s : State) (i : Slot) (f : FailReason) :
    (s.setReason i f).slots = s.slots.set i { s.slot i with reason := f } := rfl
@[simp] theorem State.setReason_warm (s : State) (i : Slot) (f : FailReason) : (s.setReason i f).warm = s.warm := rfl
@[simp] theorem State.setReason_budget (s : State) (i : Slot) (f : FailReason) : (s.setReason i f).budget = s.budget := rfl
@[simp] theorem State.setReason_bus (s : State) (i : Slot) (f : FailReason) : (s.setReason i f).bus = s.bus := rfl
@[simp] theorem State.setReason_sync (s : State) (i : Slot) (f : FailReason) : (s.setReason i f).sync = s.sync := rfl
@[simp] theorem State.setReason_raster (s : State) (i : Slot) (f : FailReason) : (s.setReason i f).raster = s.raster := rfl
@[simp] theorem State.setReason_ho (s : State) (i : Slot) (f : FailReason) : (s.setReason i f).ho = s.ho := rfl
@[simp] theorem State.setReason_router (s : State) (i : Slot) (f : FailReason) : (s.setReason i f).router = s.router := rfl
@[simp] theorem State.setReason_credit (s : State) (i : Slot) (f : FailReason) : (s.setReason i f).credit = s.credit := rfl
@[simp] theorem State.setReason_audio (s : State) (i : Slot) (f : FailReason) : (s.setReason i f).audio = s.audio := rfl
@[simp] theorem State.setReason_pins (s : State) (i : Slot) (f : FailReason) : (s.setReason i f).pins = s.pins := rfl
@[simp] theorem State.setReason_scan (s : State) (i : Slot) (f : FailReason) : (s.setReason i f).scan = s.scan := rfl

/-! ### holdNow -/

@[simp] theorem State.holdNow_pending (s : State) : s.holdNow.pending = s.pending := rfl
@[simp] theorem State.holdNow_window (s : State) : s.holdNow.window = s.window := rfl
@[simp] theorem State.holdNow_intake (s : State) : s.holdNow.intake = s.intake := rfl
@[simp] theorem State.holdNow_pages (s : State) : s.holdNow.pages = s.pages := rfl
@[simp] theorem State.holdNow_slots (s : State) : s.holdNow.slots = s.slots := rfl
@[simp] theorem State.holdNow_warm (s : State) : s.holdNow.warm = s.warm := rfl
@[simp] theorem State.holdNow_budget (s : State) : s.holdNow.budget = s.budget := rfl
@[simp] theorem State.holdNow_bus (s : State) : s.holdNow.bus = s.bus := rfl
@[simp] theorem State.holdNow_sync (s : State) : s.holdNow.sync = s.sync := rfl
@[simp] theorem State.holdNow_raster (s : State) : s.holdNow.raster = s.raster.immediateHold s.sync.mtick := rfl
@[simp] theorem State.holdNow_ho (s : State) : s.holdNow.ho = s.ho := rfl
@[simp] theorem State.holdNow_router (s : State) : s.holdNow.router = s.router := rfl
@[simp] theorem State.holdNow_credit (s : State) : s.holdNow.credit = s.credit := rfl
@[simp] theorem State.holdNow_audio (s : State) : s.holdNow.audio = s.audio := rfl
@[simp] theorem State.holdNow_pins (s : State) : s.holdNow.pins = s.pins := rfl
@[simp] theorem State.holdNow_scan (s : State) : s.holdNow.scan = s.scan := rfl

/-! ### leaveAir -/

@[simp] theorem State.leaveAir_pending (s : State) (i : Slot) : (s.leaveAir i).pending = s.pending := rfl
@[simp] theorem State.leaveAir_window (s : State) (i : Slot) : (s.leaveAir i).window = s.window := rfl
@[simp] theorem State.leaveAir_intake (s : State) (i : Slot) : (s.leaveAir i).intake = s.intake := rfl
@[simp] theorem State.leaveAir_pages (s : State) (i : Slot) : (s.leaveAir i).pages = s.pages := rfl
@[simp] theorem State.leaveAir_slots (s : State) (i : Slot) : (s.leaveAir i).slots = s.slots := rfl
@[simp] theorem State.leaveAir_warm (s : State) (i : Slot) : (s.leaveAir i).warm = s.warm := rfl
@[simp] theorem State.leaveAir_budget (s : State) (i : Slot) : (s.leaveAir i).budget = s.budget := rfl
@[simp] theorem State.leaveAir_bus (s : State) (i : Slot) : (s.leaveAir i).bus = s.bus := rfl
@[simp] theorem State.leaveAir_sync (s : State) (i : Slot) : (s.leaveAir i).sync = s.sync := rfl
@[simp] theorem State.leaveAir_raster (s : State) (i : Slot) : (s.leaveAir i).raster = s.raster := rfl
@[simp] theorem State.leaveAir_ho (s : State) (i : Slot) : (s.leaveAir i).ho = s.ho := rfl
@[simp] theorem State.leaveAir_router (s : State) (i : Slot) : (s.leaveAir i).router = s.router := rfl
@[simp] theorem State.leaveAir_credit (s : State) (i : Slot) :
    (s.leaveAir i).credit = (s.credit.setFeed i false).returnPending i := rfl
@[simp] theorem State.leaveAir_audio (s : State) (i : Slot) : (s.leaveAir i).audio = s.audio := rfl
@[simp] theorem State.leaveAir_pins (s : State) (i : Slot) : (s.leaveAir i).pins = s.pins := rfl
@[simp] theorem State.leaveAir_scan (s : State) (i : Slot) : (s.leaveAir i).scan = s.scan := rfl

/-! ### writeNotice -/

@[simp] theorem State.writeNotice_pending (s : State) (v : Word) : (s.writeNotice v).pending = s.pending := rfl
@[simp] theorem State.writeNotice_window (s : State) (v : Word) : (s.writeNotice v).window = s.window := rfl
@[simp] theorem State.writeNotice_intake (s : State) (v : Word) :
    (s.writeNotice v).intake = { s.intake with notice := s.intake.notice &&& ~~~ v } := rfl
@[simp] theorem State.writeNotice_pages (s : State) (v : Word) : (s.writeNotice v).pages = s.pages := rfl
@[simp] theorem State.writeNotice_slots (s : State) (v : Word) : (s.writeNotice v).slots = s.slots := rfl
@[simp] theorem State.writeNotice_warm (s : State) (v : Word) : (s.writeNotice v).warm = s.warm := rfl
@[simp] theorem State.writeNotice_budget (s : State) (v : Word) : (s.writeNotice v).budget = s.budget := rfl
@[simp] theorem State.writeNotice_bus (s : State) (v : Word) : (s.writeNotice v).bus = s.bus := rfl
@[simp] theorem State.writeNotice_sync (s : State) (v : Word) : (s.writeNotice v).sync = s.sync := rfl
@[simp] theorem State.writeNotice_raster (s : State) (v : Word) : (s.writeNotice v).raster = s.raster := rfl
@[simp] theorem State.writeNotice_ho (s : State) (v : Word) : (s.writeNotice v).ho = s.ho := rfl
@[simp] theorem State.writeNotice_router (s : State) (v : Word) : (s.writeNotice v).router = s.router := rfl
@[simp] theorem State.writeNotice_credit (s : State) (v : Word) : (s.writeNotice v).credit = s.credit := rfl
@[simp] theorem State.writeNotice_audio (s : State) (v : Word) : (s.writeNotice v).audio = s.audio := rfl
@[simp] theorem State.writeNotice_pins (s : State) (v : Word) : (s.writeNotice v).pins = s.pins := rfl
@[simp] theorem State.writeNotice_scan (s : State) (v : Word) : (s.writeNotice v).scan = s.scan := rfl

/-! ### writeMask -/

@[simp] theorem State.writeMask_pending (s : State) (v : Word) : (s.writeMask v).pending = s.pending := rfl
@[simp] theorem State.writeMask_window (s : State) (v : Word) : (s.writeMask v).window = s.window := rfl
@[simp] theorem State.writeMask_intake (s : State) (v : Word) :
    (s.writeMask v).intake = { s.intake with mask := v &&& 0x9FFF } := rfl
@[simp] theorem State.writeMask_pages (s : State) (v : Word) : (s.writeMask v).pages = s.pages := rfl
@[simp] theorem State.writeMask_slots (s : State) (v : Word) : (s.writeMask v).slots = s.slots := rfl
@[simp] theorem State.writeMask_warm (s : State) (v : Word) : (s.writeMask v).warm = s.warm := rfl
@[simp] theorem State.writeMask_budget (s : State) (v : Word) : (s.writeMask v).budget = s.budget := rfl
@[simp] theorem State.writeMask_bus (s : State) (v : Word) : (s.writeMask v).bus = s.bus := rfl
@[simp] theorem State.writeMask_sync (s : State) (v : Word) : (s.writeMask v).sync = s.sync := rfl
@[simp] theorem State.writeMask_raster (s : State) (v : Word) : (s.writeMask v).raster = s.raster := rfl
@[simp] theorem State.writeMask_ho (s : State) (v : Word) : (s.writeMask v).ho = s.ho := rfl
@[simp] theorem State.writeMask_router (s : State) (v : Word) : (s.writeMask v).router = s.router := rfl
@[simp] theorem State.writeMask_credit (s : State) (v : Word) : (s.writeMask v).credit = s.credit := rfl
@[simp] theorem State.writeMask_audio (s : State) (v : Word) : (s.writeMask v).audio = s.audio := rfl
@[simp] theorem State.writeMask_pins (s : State) (v : Word) : (s.writeMask v).pins = s.pins := rfl
@[simp] theorem State.writeMask_scan (s : State) (v : Word) : (s.writeMask v).scan = s.scan := rfl

/-! ### drivePins -/

@[simp] theorem State.drivePins_pending (s : State) : s.drivePins.pending = s.pending := rfl
@[simp] theorem State.drivePins_window (s : State) : s.drivePins.window = s.window := rfl
@[simp] theorem State.drivePins_intake (s : State) : s.drivePins.intake = s.intake := rfl
@[simp] theorem State.drivePins_pages (s : State) : s.drivePins.pages = s.pages := rfl
@[simp] theorem State.drivePins_slots (s : State) : s.drivePins.slots = s.slots := rfl
@[simp] theorem State.drivePins_warm (s : State) : s.drivePins.warm = s.warm := rfl
@[simp] theorem State.drivePins_budget (s : State) : s.drivePins.budget = s.budget := rfl
@[simp] theorem State.drivePins_bus (s : State) : s.drivePins.bus = s.bus := rfl
@[simp] theorem State.drivePins_sync (s : State) : s.drivePins.sync = s.sync := rfl
@[simp] theorem State.drivePins_raster (s : State) : s.drivePins.raster = s.raster := rfl
@[simp] theorem State.drivePins_ho (s : State) : s.drivePins.ho = s.ho := rfl
@[simp] theorem State.drivePins_router (s : State) : s.drivePins.router = s.router.drive := rfl
@[simp] theorem State.drivePins_credit (s : State) : s.drivePins.credit = s.credit := rfl
@[simp] theorem State.drivePins_audio (s : State) : s.drivePins.audio = s.audio := rfl
@[simp] theorem State.drivePins_pins (s : State) : s.drivePins.pins = s.pins := rfl
@[simp] theorem State.drivePins_scan (s : State) : s.drivePins.scan = s.scan := rfl

/-! ### countTick -/

@[simp] theorem State.countTick_pending (s : State) : s.countTick.pending = s.pending := rfl
@[simp] theorem State.countTick_window (s : State) : s.countTick.window = s.window := rfl
@[simp] theorem State.countTick_intake (s : State) : s.countTick.intake = s.intake := rfl
@[simp] theorem State.countTick_pages (s : State) : s.countTick.pages = s.pages := rfl
@[simp] theorem State.countTick_warm (s : State) : s.countTick.warm = s.warm := rfl
@[simp] theorem State.countTick_budget (s : State) : s.countTick.budget = s.budget := rfl
@[simp] theorem State.countTick_bus (s : State) : s.countTick.bus = s.bus := rfl
@[simp] theorem State.countTick_sync (s : State) : s.countTick.sync = s.sync.tick s.pins := rfl
@[simp] theorem State.countTick_raster (s : State) : s.countTick.raster = s.raster := rfl
@[simp] theorem State.countTick_router (s : State) : s.countTick.router = s.router.sample s.pins := rfl
@[simp] theorem State.countTick_credit (s : State) : s.countTick.credit = s.credit.tick := rfl
@[simp] theorem State.countTick_audio (s : State) : s.countTick.audio = s.audio := rfl
@[simp] theorem State.countTick_pins (s : State) : s.countTick.pins = s.pins := rfl
@[simp] theorem State.countTick_scan (s : State) : s.countTick.scan = s.scan := rfl

/-! ### noteVertical and passedOver: a slot has no vertical input (R70) -/

@[simp] theorem State.noteVertical_slot (s : State) (i : Slot) (input : SyncInput) (t : Stamp) :
    s.noteVertical (.slot i) input t = s := by cases input <;> rfl
@[simp] theorem State.noteVertical_horizontal (s : State) (src : Source) (t : Stamp) :
    s.noteVertical src .horizontal t = s := by cases src <;> rfl
@[simp] theorem State.passedOver_slot (s : State) (i : Slot) (input : SyncInput) (t : Stamp) :
    s.passedOver (.slot i) input t = false := by cases input <;> rfl

end Sys2Proof.Machine
end

