-- ==== Sys2Proof/Laws/Tables.lean ====
section
/-! SUPPORT. Reads after writes of the per-slot and per-source tables, the pages and the job cells. -/

namespace Sys2Proof.Machine

/-! ### Per-slot and per-source tables -/

@[simp] theorem PerSlot.get_set_same {α : Type} (t : PerSlot α) (i : Slot) (a : α) : (t.set i a).get i = a := by
  cases i <;> rfl

theorem PerSlot.get_set_other {α : Type} (t : PerSlot α) {i j : Slot} (h : j ≠ i) (a : α) :
    (t.set i a).get j = t.get j := by
  cases i <;> cases j <;> first | rfl | exact absurd rfl h

/-- A write at one slot, read at any. -/
theorem PerSlot.get_set {α : Type} (t : PerSlot α) (i j : Slot) (a : α) :
    (t.set i a).get j = if j = i then a else t.get j := by
  by_cases h : j = i
  · subst h; simp
  · simp [PerSlot.get_set_other t h, h]

@[simp] theorem PerSlot.get_ofFn {α : Type} (f : Slot → α) (i : Slot) : (PerSlot.ofFn f).get i = f i := by
  cases i <;> rfl

@[simp] theorem PerSlot.get_const {α : Type} (a : α) (i : Slot) : (PerSlot.const a).get i = a := by
  cases i <;> rfl

@[simp] theorem PerSlot.set_get {α : Type} (t : PerSlot α) (i : Slot) : t.set i (t.get i) = t := by
  cases i <;> rfl

@[simp] theorem PerSlot.set_set {α : Type} (t : PerSlot α) (i : Slot) (a b : α) : (t.set i a).set i b = t.set i b := by
  cases i <;> rfl

@[simp] theorem PerSource.get_set_same {α : Type} (t : PerSource α) (s : Source) (a : α) : (t.set s a).get s = a := by
  cases s <;> simp [PerSource.set, PerSource.get]

/-- A write at one source, read at any. -/
theorem PerSource.get_set {α : Type} (t : PerSource α) (s u : Source) (a : α) :
    (t.set s a).get u = if u = s then a else t.get u := by
  cases s <;> cases u <;> simp [PerSource.set, PerSource.get, PerSlot.get_set]

@[simp] theorem PerSource.get_ofFn {α : Type} (f : Source → α) (s : Source) : (PerSource.ofFn f).get s = f s := by
  cases s <;> simp [PerSource.ofFn, PerSource.get]

@[simp] theorem Slot.mem_all (i : Slot) : i ∈ Slot.all := by cases i <;> decide

@[simp] theorem Source.mem_all (s : Source) : s ∈ Source.all := by
  cases s with
  | menu => decide
  | slot i => cases i <;> decide

/-- A slot's number names it (Conventions, "Sources and slots"). -/
@[simp] theorem Slot.ofNumber_number (i : Slot) : Slot.ofNumber i.number = some i := by cases i <;> rfl

@[simp] theorem Source.ofNumber_number (s : Source) : Source.ofNumber s.number = some s := by
  cases s with
  | menu => rfl
  | slot i => cases i <;> rfl

/-! ### Pages -/

@[simp] theorem Pages.get_set_same (p : Pages) (id : PageId) (q : Page) : (p.set id q).get id = q := by
  cases id <;> simp [Pages.set, Pages.get]

theorem Pages.get_set (p : Pages) (id other : PageId) (q : Page) :
    (p.set id q).get other = if other = id then q else p.get other := by
  cases id <;> cases other <;> simp [Pages.set, Pages.get, PerSource.get_set]

@[simp] theorem Page.marked_count (p : Page) : p.marked.count = p.count := rfl
@[simp] theorem Page.marked_mark (p : Page) : p.marked.mark = true := rfl
@[simp] theorem Page.markIf_count (p : Page) (b : Bool) : (p.markIf b).count = p.count := rfl
@[simp] theorem Page.markIf_mark (p : Page) (b : Bool) : (p.markIf b).mark = (p.mark || b) := rfl

/-- Marking a page loses no mark and changes no count (R14). -/
theorem mark_count (s : State) (id other : PageId) :
    ((s.mark id).pages.get other).count = (s.pages.get other).count := by
  simp only [State.mark_pages, Pages.get_set]
  split <;> simp_all

theorem mark_keeps (s : State) (id other : PageId) (h : (s.pages.get other).mark = true) :
    ((s.mark id).pages.get other).mark = true := by
  simp only [State.mark_pages, Pages.get_set]
  split <;> simp_all

/-- What the end of a command leaves of a page's record: its count, and its mark or one more (R14). -/
theorem remarkPages_count (old new : State) (id : PageId) :
    ((remarkPages old new).get id).count = (new.pages.get id).count := by
  cases id <;> simp [remarkPages, Pages.get]

theorem remarkPages_keeps (old new : State) (id : PageId) (h : (new.pages.get id).mark = true) :
    ((remarkPages old new).get id).mark = true := by
  cases id <;> simp_all [remarkPages, Pages.get]

/-! ### Job cells -/

@[simp] theorem cell_setCell_same (s : State) (c : CellNo) (st : CellState) : (s.setCell c st).cell c = st := by
  simp [State.cell, State.setCell]

theorem cell_setCell (s : State) (c d : CellNo) (st : CellState) :
    (s.setCell c st).cell d = if d = c then st else s.cell d := by
  by_cases h : d = c
  · subst h; simp
  · have : c.val ≠ d.val := fun e => h (Fin.ext e.symm)
    simp [State.cell, State.setCell, h, Vector.getElem_set_ne, this]

@[simp] theorem mem_allCells (c : CellNo) : c ∈ allCells := by revert c; decide

/-- The cells whose bits a value sets. -/
theorem mem_cellsIn (value : Word) (c : CellNo) : c ∈ cellsIn value ↔ value.getLsbD c.val = true := by
  simp [cellsIn]

end Sys2Proof.Machine
end

