-- ==== Sys2Proof/Laws/Window.lean ====
section
/-! SUPPORT. The memory words of the window: a read after a write, and the canonical form kept by every write (R1). -/

namespace Sys2Proof.Machine

theorem Window.risingFrom_mono {lo lo' : Nat} (h : lo' ≤ lo) :
    ∀ {w : Window}, Window.risingFrom lo w = true → Window.risingFrom lo' w = true
  | [], _ => rfl
  | (a, v) :: rest, hw => by
    simp only [Window.risingFrom, Bool.and_eq_true, decide_eq_true_eq] at hw ⊢
    exact ⟨⟨⟨by omega, hw.1.1.2⟩, hw.1.2⟩, hw.2⟩

/-- Nothing is listed below the bound of a rising list. -/
theorem Window.read_below {lo a : Nat} (h : a < lo) :
    ∀ {w : Window}, Window.risingFrom lo w = true → w.read a = 0
  | [], _ => rfl
  | (b, v) :: rest, hw => by
    simp only [Window.risingFrom, Bool.and_eq_true, decide_eq_true_eq] at hw
    have hb : ¬ b = a := by omega
    simp only [Window.read, hb, if_false]
    exact Window.read_below (lo := b + 1) (by omega) hw.2

/-- A write keeps the canonical form. -/
theorem Window.write_rising {lo addr : Nat} (hlo : lo ≤ addr) (hr : addr < Config.registerBase) (v : Word) :
    ∀ {w : Window}, Window.risingFrom lo w = true → Window.risingFrom lo (w.write addr v) = true
  | [], _ => by
    by_cases hv : v = 0#16 <;> simp [Window.write, Window.risingFrom, hv, hlo, hr]
  | (a, x) :: rest, hw => by
    simp only [Window.risingFrom, Bool.and_eq_true, decide_eq_true_eq] at hw
    have hx0 : ¬ x = 0#16 := hw.1.2
    by_cases h1 : addr < a
    · by_cases hv : v = 0#16
      · simp [Window.write, Window.risingFrom, h1, hv, hw, hx0]
      · have hx : addr + 1 ≤ a := h1
        simp [Window.write, Window.risingFrom, h1, hv, hw, hlo, hr, hx, hx0]
    · by_cases h2 : addr = a
      · subst h2
        by_cases hv : v = 0#16
        · simp [Window.write, hv, Window.risingFrom_mono (Nat.le_succ_of_le hlo) hw.2]
        · simp [Window.write, Window.risingFrom, hv, hlo, hr, hw.2]
      · have := Window.write_rising (lo := a + 1) (addr := addr) (by omega) hr v hw.2
        simp [Window.write, Window.risingFrom, h1, h2, hw, hx0, this]

/-- A write keeps the canonical form (R1). -/
theorem Window.write_wf {w : Window} {addr : Nat} (hr : addr < Config.registerBase) (v : Word) (h : w.wf = true) :
    (w.write addr v).wf = true := Window.write_rising (Nat.zero_le _) hr v h

/-- Consecutive writes keep the canonical form. -/
theorem Window.writeAll_wf : ∀ {vs : List Word} {w : Window} {addr : Nat},
    addr + vs.length ≤ Config.registerBase → w.wf = true → (w.writeAll addr vs).wf = true
  | [], _, _, _, h => h
  | v :: vs, w, addr, hr, h => by
    simp only [List.length_cons] at hr
    exact Window.writeAll_wf (vs := vs) (by omega) (Window.write_wf (by omega) v h)

/-- A word written reads back: "a memory word keeps the last value written into it" (R1). -/
theorem Window.read_write_same {lo addr : Nat} (v : Word) :
    ∀ {w : Window}, Window.risingFrom lo w = true → (w.write addr v).read addr = v
  | [], _ => by by_cases hv : v = 0#16 <;> simp [Window.write, Window.read, hv]
  | (a, x) :: rest, hw => by
    simp only [Window.risingFrom, Bool.and_eq_true, decide_eq_true_eq] at hw
    by_cases h1 : addr < a
    · by_cases hv : v = 0#16
      · have ha : ¬ a = addr := by omega
        simp [Window.write, Window.read, h1, hv, ha, Window.read_below (lo := a + 1) (a := addr) (by omega) hw.2]
      · simp [Window.write, Window.read, h1, hv]
    · by_cases h2 : addr = a
      · subst h2
        by_cases hv : v = 0#16
        · simp [Window.write, hv, Window.read_below (lo := addr + 1) (a := addr) (by omega) hw.2]
        · simp [Window.write, Window.read, hv]
      · have ha : ¬ a = addr := fun e => h2 e.symm
        simp [Window.write, Window.read, h1, h2, ha, Window.read_write_same (lo := a + 1) (addr := addr) v hw.2]

/-- A write leaves every other word alone. -/
theorem Window.read_write_other {addr b : Nat} (hb : b ≠ addr) (v : Word) :
    ∀ {w : Window}, (w.write addr v).read b = w.read b
  | [] => by
    by_cases hv : v = 0#16
    · simp [Window.write, hv]
    · simp [Window.write, Window.read, hv, Ne.symm hb]
  | (a, x) :: rest => by
    by_cases h1 : addr < a
    · by_cases hv : v = 0#16
      · simp [Window.write, h1, hv]
      · simp [Window.write, Window.read, h1, hv, Ne.symm hb]
    · by_cases h2 : addr = a
      · subst h2
        by_cases hv : v = 0#16
        · simp [Window.write, Window.read, hv, Ne.symm hb]
        · simp [Window.write, Window.read, hv, Ne.symm hb]
      · simp only [Window.write, h1, h2, if_false, Window.read, Window.read_write_other hb v (w := rest)]

/-- Consecutive writes leave every word outside their range alone. -/
theorem Window.read_writeAll_other : ∀ {vs : List Word} {w : Window} {addr b : Nat},
    (b < addr ∨ addr + vs.length ≤ b) → (w.writeAll addr vs).read b = w.read b
  | [], _, _, _, _ => rfl
  | v :: vs, w, addr, b, h => by
    simp only [List.length_cons] at h
    rw [Window.writeAll, Window.read_writeAll_other (vs := vs) (by omega),
      Window.read_write_other (by omega)]

/-- Consecutive words written read back. -/
theorem Window.read_writeAll : ∀ {vs : List Word} {w : Window} {addr k : Nat},
    addr + vs.length ≤ Config.registerBase → w.wf = true → k < vs.length →
      (w.writeAll addr vs).read (addr + k) = vs.getD k 0
  | [], _, _, _, _, _, hk => absurd hk (by simp)
  | v :: vs, w, addr, k, hr, hw, hk => by
    simp only [List.length_cons] at hr hk
    cases k with
    | zero =>
      rw [Window.writeAll, Window.read_writeAll_other (by omega)]
      simpa using Window.read_write_same (lo := 0) v hw
    | succ k =>
      have := Window.read_writeAll (vs := vs) (w := w.write addr v) (addr := addr + 1) (k := k) (by omega)
        (Window.write_wf (by omega) v hw) (by omega)
      rw [Window.writeAll, show addr + (k + 1) = addr + 1 + k by omega, this]
      simp

/-- The window after power-on reset is in canonical form. -/
theorem reset_window_wf : State.reset.window.wf = true := rfl

/-- Sixteen result words are written at a completion (R10). -/
@[simp] theorem resultWords_length (r : Result) (detail : Nat) (data : List Nat) :
    (resultWords r detail data).length = 16 := by
  simp [resultWords]

theorem cellBase_bound (c : CellNo) : cellBase c + 32 ≤ 512 := by
  have := c.isLt
  simp only [cellBase]; omega

end Sys2Proof.Machine
end

