-- ==== Sys2Proof/Laws/Ops.lean ====
section
/-! SUPPORT. One specification lemma for each shared operation: the completion of a job, the take of the head job, the end
of a command, marks and notices. Later proofs cite these and do not unfold the operations. -/

namespace Sys2Proof.Machine

/-! ### Completion (R10) -/

/-- Completing a TAKEN cell: the sixteen result words are written and the cell becomes DONE. -/
theorem complete_taken {s : State} {c : CellNo} (h : s.cell c = .taken) (r : Result) (detail : Nat) (data : List Nat) :
    s.complete c r detail data =
      { s with window := s.window.writeAll (cellBase c + 16) (resultWords r detail data),
               intake := { s.intake with cells := s.intake.cells.set c.val .done } } := by
  simp only [State.complete, h, if_true]
  rfl

/-- Completing a cell that holds no taken job changes nothing. -/
theorem complete_untaken {s : State} {c : CellNo} (h : s.cell c ≠ .taken) (r : Result) (detail : Nat)
    (data : List Nat) : s.complete c r detail data = s := by
  simp [State.complete, h]

/-- A completion touches the window and the cells alone. -/
theorem complete_frame (s : State) (c : CellNo) (r : Result) (detail : Nat) (data : List Nat) :
    s.complete c r detail data =
      { s with window := (s.complete c r detail data).window, intake := (s.complete c r detail data).intake } := by
  unfold State.complete
  split <;> rfl

@[simp] theorem complete_pending (s : State) (c : CellNo) (r : Result) (d : Nat) (l : List Nat) :
    (s.complete c r d l).pending = s.pending := by unfold State.complete; split <;> rfl
@[simp] theorem complete_pages (s : State) (c : CellNo) (r : Result) (d : Nat) (l : List Nat) :
    (s.complete c r d l).pages = s.pages := by unfold State.complete; split <;> rfl
@[simp] theorem complete_slots (s : State) (c : CellNo) (r : Result) (d : Nat) (l : List Nat) :
    (s.complete c r d l).slots = s.slots := by unfold State.complete; split <;> rfl
@[simp] theorem complete_warm (s : State) (c : CellNo) (r : Result) (d : Nat) (l : List Nat) :
    (s.complete c r d l).warm = s.warm := by unfold State.complete; split <;> rfl
@[simp] theorem complete_budget (s : State) (c : CellNo) (r : Result) (d : Nat) (l : List Nat) :
    (s.complete c r d l).budget = s.budget := by unfold State.complete; split <;> rfl
@[simp] theorem complete_bus (s : State) (c : CellNo) (r : Result) (d : Nat) (l : List Nat) :
    (s.complete c r d l).bus = s.bus := by unfold State.complete; split <;> rfl
@[simp] theorem complete_sync (s : State) (c : CellNo) (r : Result) (d : Nat) (l : List Nat) :
    (s.complete c r d l).sync = s.sync := by unfold State.complete; split <;> rfl
@[simp] theorem complete_raster (s : State) (c : CellNo) (r : Result) (d : Nat) (l : List Nat) :
    (s.complete c r d l).raster = s.raster := by unfold State.complete; split <;> rfl
@[simp] theorem complete_ho (s : State) (c : CellNo) (r : Result) (d : Nat) (l : List Nat) :
    (s.complete c r d l).ho = s.ho := by unfold State.complete; split <;> rfl
@[simp] theorem complete_router (s : State) (c : CellNo) (r : Result) (d : Nat) (l : List Nat) :
    (s.complete c r d l).router = s.router := by unfold State.complete; split <;> rfl
@[simp] theorem complete_credit (s : State) (c : CellNo) (r : Result) (d : Nat) (l : List Nat) :
    (s.complete c r d l).credit = s.credit := by unfold State.complete; split <;> rfl
@[simp] theorem complete_audio (s : State) (c : CellNo) (r : Result) (d : Nat) (l : List Nat) :
    (s.complete c r d l).audio = s.audio := by unfold State.complete; split <;> rfl
@[simp] theorem complete_pins (s : State) (c : CellNo) (r : Result) (d : Nat) (l : List Nat) :
    (s.complete c r d l).pins = s.pins := by unfold State.complete; split <;> rfl
@[simp] theorem complete_scan (s : State) (c : CellNo) (r : Result) (d : Nat) (l : List Nat) :
    (s.complete c r d l).scan = s.scan := by unfold State.complete; split <;> rfl

/-- Several completions touch the window and the cells alone. -/
theorem completeAll_frame (cells : List CellNo) (r : Result) (detail : Nat) (data : List Nat) (s : State) :
    s.completeAll cells r detail data =
      { s with window := (s.completeAll cells r detail data).window,
               intake := (s.completeAll cells r detail data).intake } := by
  induction cells generalizing s with
  | nil => rfl
  | cons c cs ih =>
    refine (ih (s.complete c r detail data)).trans ?_
    simp only [complete_pending, complete_pages, complete_slots, complete_warm, complete_budget, complete_bus,
      complete_sync, complete_raster, complete_ho, complete_router, complete_credit, complete_audio, complete_pins,
      complete_scan]
    rfl

/-- A completion keeps the window in canonical form. -/
theorem complete_wf {s : State} (h : s.window.wf = true) (c : CellNo) (r : Result) (detail : Nat) (data : List Nat) :
    (s.complete c r detail data).window.wf = true := by
  by_cases hc : s.cell c = .taken
  · rw [complete_taken hc]
    have := cellBase_bound c
    exact Window.writeAll_wf (by simp only [resultWords_length, Config.registerBase]; omega) h
  · rw [complete_untaken hc]; exact h

/-- The words written at a completion (R10): the result words in the cell, every other word as before. -/
theorem complete_reads {s : State} (hw : s.window.wf = true) {c : CellNo} (h : s.cell c = .taken) (r : Result)
    (detail : Nat) (data : List Nat) :
    (∀ k, k < 16 → (s.complete c r detail data).readMem (cellBase c + 16 + k) = (resultWords r detail data).getD k 0) ∧
      (∀ a, a < cellBase c + 16 ∨ cellBase c + 32 ≤ a → (s.complete c r detail data).readMem a = s.readMem a) := by
  have hb := cellBase_bound c
  rw [complete_taken h]
  refine ⟨fun k hk => ?_, fun a ha => ?_⟩
  · exact Window.read_writeAll (by simp only [resultWords_length, Config.registerBase]; omega) hw (by simpa using hk)
  · exact Window.read_writeAll_other (by simp only [resultWords_length]; omega)

/-- Jobs completed one after the other, each with its ending. -/
def State.completeEach (s : State) (es : List Ending) : State :=
  es.foldl (fun t e => t.complete e.cell e.result e.detail e.data) s

/-- Several endings touch the window and the cells alone. -/
theorem completeEach_frame (es : List Ending) (s : State) :
    s.completeEach es = { s with window := (s.completeEach es).window, intake := (s.completeEach es).intake } := by
  induction es generalizing s with
  | nil => rfl
  | cons e es ih =>
    refine (ih (s.complete e.cell e.result e.detail e.data)).trans ?_
    simp only [complete_pending, complete_pages, complete_slots, complete_warm, complete_budget, complete_bus,
      complete_sync, complete_raster, complete_ho, complete_router, complete_credit, complete_audio, complete_pins,
      complete_scan]
    rfl

/-- A completion of one cell leaves the state of every other. -/
theorem complete_cell_other (s : State) {c d : CellNo} (h : d ≠ c) (r : Result) (detail : Nat) (data : List Nat) :
    (s.complete c r detail data).cell d = s.cell d := by
  unfold State.complete
  split
  · rw [cell_setCell]; simp [h]; rfl
  · rfl

/-- What several endings of TAKEN cells do (R10): every cell DONE with its result, every other word as before. -/
theorem completeEach_reads {s : State} (hw : s.window.wf = true) :
    ∀ {es : List Ending}, (es.map Ending.cell).Nodup → (∀ e, e ∈ es → s.cell e.cell = .taken) →
      (s.completeEach es).intake =
        { s.intake with cells := es.foldl (fun cs e => cs.set e.cell.val .done) s.intake.cells } ∧
      (∀ e, e ∈ es → Shows (s.completeEach es) e) ∧
      (∀ a, (∀ e, e ∈ es → a < cellBase e.cell + 16 ∨ cellBase e.cell + 32 ≤ a) →
        (s.completeEach es).readMem a = s.readMem a) ∧
      (∀ c, (∀ e, e ∈ es → c ≠ e.cell) → (s.completeEach es).cell c = s.cell c) := by
  intro es
  induction es generalizing s with
  | nil => intro _ _; exact ⟨rfl, by simp, fun _ _ => rfl, fun _ _ => rfl⟩
  | cons e es ih =>
    intro hnd ht
    simp only [List.map_cons, List.nodup_cons, List.mem_map, not_exists, not_and] at hnd
    have he := ht e List.mem_cons_self
    have hne : ∀ x, x ∈ es → x.cell ≠ e.cell := fun x hx h => hnd.1 x hx h
    have hr := complete_reads hw he e.result e.detail e.data
    have h := ih (s := s.complete e.cell e.result e.detail e.data) (complete_wf hw _ _ _ _) hnd.2
      (fun x hx => by rw [complete_cell_other s (hne x hx)]; exact ht x (List.mem_cons_of_mem _ hx))
    have hi : (s.complete e.cell e.result e.detail e.data).intake =
        { s.intake with cells := s.intake.cells.set e.cell.val .done } := by rw [complete_taken he]
    refine ⟨h.1.trans (by rw [hi]; rfl), ?_, ?_, ?_⟩
    · intro x hx
      rcases List.mem_cons.1 hx with rfl | hx
      · refine ⟨(h.2.2.2 x.cell fun y hy => (hne y hy).symm).trans ?_, fun k hk => ?_⟩
        · simp [State.cell, hi]
        · refine (h.2.2.1 _ fun y hy => ?_).trans (hr.1 k hk)
          have : x.cell.val ≠ y.cell.val := fun hv => hne y hy (Fin.ext hv.symm)
          simp only [cellBase]; omega
      · exact h.2.1 x hx
    · intro a ha
      exact (h.2.2.1 a fun x hx => ha x (List.mem_cons_of_mem _ hx)).trans (hr.2 a (ha e List.mem_cons_self))
    · intro c hc
      exact (h.2.2.2 c fun x hx => hc x (List.mem_cons_of_mem _ hx)).trans
        (complete_cell_other s (hc e List.mem_cons_self) _ _ _)

/-! ### The take (R8, R9) -/

/-- With the head job due, the intake takes it and its owner acts. -/
theorem takeIf_due {s : State} {j : Job} (h : s.headJob = some j) {due : Job → Bool} (hd : due j = true)
    (act : Job → State → State) : s.takeIf due act = act j (s.take j.cell) := by
  simp [State.takeIf, h, hd]

/-- With no head job, or one that is not due, nothing changes. -/
theorem takeIf_undue {s : State} {due : Job → Bool} (h : ∀ j, s.headJob = some j → due j = false)
    (act : Job → State → State) : s.takeIf due act = s := by
  unfold State.takeIf
  split
  · rfl
  · rename_i j hj; simp [h j hj]

/-- A head job stands at the head of the intake list, and no soft restart is in progress (R8). -/
theorem headJob_some {s : State} {j : Job} (h : s.headJob = some j) :
    s.intake.restarting = false ∧ s.intake.list.head? = some j.cell ∧ j = s.jobAt j.cell := by
  unfold State.headJob at h
  split at h
  · cases h
  · rename_i hr
    cases hl : s.intake.list.head? with
    | none => simp [hl] at h
    | some c =>
      simp only [hl, Option.map_some, Option.some.injEq] at h
      subst h
      exact ⟨by simpa using hr, rfl, rfl⟩

@[simp] theorem take_cell (s : State) (c : CellNo) : (s.take c).cell c = .taken := by
  simp [State.take, State.cell, State.setCell]

/-- Taking a job that ends at once leaves the cells with that one DONE. -/
theorem take_complete_intake (s : State) (c : CellNo) (r : Result) (detail : Nat) (data : List Nat) :
    ((s.take c).complete c r detail data).intake =
      { s.intake with cells := s.intake.cells.set c.val .done, list := s.intake.list.tail } := by
  rw [complete_taken (take_cell s c)]
  simp

/-! ### The end of a command (R14) -/

/-- A command answers the state it made, with the pages whose shown fields it changed marked. -/
theorem finish_eq (old new : State) : finish old new = .next { new with pages := remarkPages old new } := rfl

/-- A command whose effect leaves the update counts and keeps the marks only adds marks. -/
theorem onlyMarks_remark {s new : State}
    (h : ∀ id, (new.pages.get id).count = (s.pages.get id).count ∧
      ((s.pages.get id).mark = true → (new.pages.get id).mark = true)) :
    OnlyMarks s { new with pages := remarkPages s new } := fun id =>
  ⟨(remarkPages_count s new id).trans (h id).1, fun hm => remarkPages_keeps s new id ((h id).2 hm)⟩

/-- A command that does not touch the pages only adds marks. -/
theorem onlyMarks_of_pages {s new : State} (h : new.pages = s.pages) :
    OnlyMarks s { new with pages := remarkPages s new } := onlyMarks_remark fun id => by simp [h]

/-- A command that marks one page only adds marks. -/
theorem onlyMarks_of_mark {s new : State} {id : PageId} (h : new.pages = (s.mark id).pages) :
    OnlyMarks s { new with pages := remarkPages s new } := onlyMarks_remark fun other => by
  rw [h]; exact ⟨mark_count s id other, mark_keeps s id other⟩

/-- A job that its owner ends at its take, in a state `m` that differs from the take's in neither window nor intake and
from `s` in no page but by marks, ends as R8 and R10 say. -/
theorem ends_at_take {s m : State} {j : Job} (hw : s.window.wf = true) (hwin : m.window = s.window)
    (hint : m.intake = (s.take j.cell).intake)
    (hpages : ∀ id, (m.pages.get id).count = (s.pages.get id).count ∧
      ((s.pages.get id).mark = true → (m.pages.get id).mark = true)) (r : Result) (detail : Nat) (data : List Nat) :
    EndsAtTake s { m.complete j.cell r detail data with pages := remarkPages s (m.complete j.cell r detail data) } j r
      detail data := by
  have hc : m.cell j.cell = .taken := by
    have := take_cell s j.cell
    simp only [State.cell, hint] at this ⊢
    exact this
  have hr := complete_reads (s := m) (by rw [hwin]; exact hw) hc r detail data
  have hi : (m.complete j.cell r detail data).intake =
      { s.intake with cells := s.intake.cells.set j.cell.val .done, list := s.intake.list.tail } := by
    rw [complete_taken hc]
    simp [hint, State.take, State.setCell]
  refine ⟨hi, hr.1, fun a ha => (hr.2 a ha).trans ?_, onlyMarks_remark fun id => ?_⟩
  · simp only [State.readMem, hwin]
  · simpa using hpages id

/-- A job whose owner keeps it has left the list, and no word has changed. -/
theorem waits_with_owner {s m : State} {j : Job} (hwin : m.window = s.window)
    (hint : m.intake = (s.take j.cell).intake)
    (hpages : ∀ id, (m.pages.get id).count = (s.pages.get id).count ∧
      ((s.pages.get id).mark = true → (m.pages.get id).mark = true)) :
    WaitsWithOwner s { m with pages := remarkPages s m } j :=
  ⟨by simp [hint, State.take, State.setCell], hwin, onlyMarks_remark hpages⟩

/-- Jobs that owners end in a state `m` whose window is that of `s` end as R10 says. -/
theorem jobs_end {s m : State} {es : List Ending} (hw : s.window.wf = true) (hwin : m.window = s.window)
    (hnd : (es.map Ending.cell).Nodup) (ht : ∀ e, e ∈ es → m.cell e.cell = .taken)
    (hpages : ∀ id, (m.pages.get id).count = (s.pages.get id).count ∧
      ((s.pages.get id).mark = true → (m.pages.get id).mark = true)) :
    JobsEnd s { m.completeEach es with pages := remarkPages s (m.completeEach es) } m.intake es := by
  have h := completeEach_reads (s := m) (by rw [hwin]; exact hw) hnd ht
  refine ⟨h.1, h.2.1, fun a ha => (h.2.2.1 a ha).trans ?_, onlyMarks_remark fun id => ?_⟩
  · simp only [State.readMem, hwin]
  · rw [completeEach_frame]; exact hpages id

/-! ### Credit (R162, R167, R170) -/

/-- What a move takes never exceeds the bank. -/
theorem movable_le_bank (s : State) (i : Slot) (n : Nat) : s.movable i n ≤ s.credit.bank := by
  simp only [State.movable]; omega

/-- What a move takes never exceeds the count asked for. -/
theorem movable_le (s : State) (i : Slot) (n : Nat) : s.movable i n ≤ n := by
  simp only [State.movable]; omega

/-- A unit kept by the credit unit goes to the bank or to the unbanked total (R162). -/
theorem bankUnit_cases (c : Credit) :
    (c.bank < Config.bankMax ∧ c.bankUnit = { c with bank := c.bank + 1 }) ∨
      (Config.bankMax ≤ c.bank ∧ c.bankUnit = { c with unbanked := c.unbanked + 1 }) := by
  unfold Credit.bankUnit
  split
  · exact .inl ⟨‹_›, rfl⟩
  · exact .inr ⟨by omega, rfl⟩

/-- Returned units leave the bank at or below its greatest (R167). -/
theorem returnUnits_bound {c : Credit} (h : c.bank ≤ Config.bankMax) (n : Nat) :
    (c.returnUnits n).bank ≤ Config.bankMax := by
  simp only [Credit.returnUnits]; omega

/-! ### The pins at an event of the router (R142) -/

/-- While the scan in progress has its pins still to compute, an event leaves them. -/
theorem settlePins_scanning {s : State} (h : s.pinsToCome = true) : s.settlePins = s := if_pos h

/-- Otherwise an event has them computed for it. -/
theorem settlePins_outside {s : State} (h : s.pinsToCome = false) : s.settlePins = s.drivePins := by
  simp [State.settlePins, h]

/-! ### The level announced (R180) -/

/-- A ratio of another source than the wanted one is announced to nobody. -/
theorem ratioAnnounced_other {s : State} {src : Source} (h : s.audio.wanted ≠ some src) : s.ratioAnnounced src = s :=
  if_neg h

/-- A level short of its target announces nothing. -/
theorem levelReached_short {s : State} (h : s.audio.current ≠ s.audio.target) : s.levelReached = s := by
  simp [State.levelReached, State.levelAnnounced, h]

/-- A level that has reached its target ends FADE_IN, and the waiting job is then taken up (R113). -/
theorem levelReached_fadeIn {s : State} (h : s.audio.current = s.audio.target) (hp : s.ho.phase = .fadeIn) :
    s.levelReached = s.fadeInEnd.takeUpWaiting := by
  simp [State.levelReached, State.levelAnnounced, h, hp]

/-! ### The mtick counter (R65) -/

/-- The counter runs on to an instant ahead of it and stays at one behind it. -/
theorem advanceTo_cases (s : State) (t : Stamp) :
    s.advanceTo t = { s with sync := { s.sync with mtick := t } } ∨ s.advanceTo t = s := by
  unfold State.advanceTo
  split
  · exact .inl rfl
  · exact .inr rfl

end Sys2Proof.Machine
end

