-- ==== Sys2Proof/Tests/Slice0.lean ====
section
/-! SUPPORT. Tests: the smoke test of WellFormed, the worked examples of the spec, and a witness of the hypotheses of each
statement. Expected values are the spec's own, or computed by hand from its rules; each test names its rule. -/

open Sys2Proof Sys2Proof.Machine

namespace Sys2Proof.Tests

/-! ### Small states -/

/-- The state after a command, when it answers one. -/
def after (c : Instr) (s : State) : State :=
  match exec c s with
  | .next t => t
  | .fault _ => s
  | .refused _ => s

/-- A descriptor: class 5, settle 20 ms, start 300 ms, grace 100 ms, pulses 10 and 12 ms, cap 30, window values 188 and 383,
ratio 200, allowance 2, cool 100 ms, active-low, 40 pins. -/
def board : Descriptor := ⟨5, 0, [], 2, 3, 10, 10, 12, 30, 188, 383, 200, 2, 1, false, 40⟩

/-- A state with slot 1 in a state, holding the descriptor. -/
def slotIn (st : SlotState) : State :=
  { State.reset with
    slots := State.reset.slots.set .s1 { SlotRec.reset with state := st },
    bus := { Bus.reset with copies := Bus.reset.copies.set .s1 (some board) },
    warm := if st.powered then [.s1] else [] }

/-- A state with the job of the given request words posted in cell 0. -/
def posted (words : List Nat) (s : State) : State :=
  { s with
    window := s.window.writeAll 0 (words.map (BitVec.ofNat 16)),
    intake := { s.intake with cells := s.intake.cells.set 0 .posted, list := [0] } }

/-- A state whose record of slot 1 is the given one. -/
def measured (r : SyncRec) (s : State) : State := { s with sync := { s.sync with records := s.sync.records.set (.slot .s1) r } }

/-- A LIVE and stable record with line period 15384 and 262 lines. -/
def liveRecord : SyncRec :=
  { SyncRec.blank .live with
    lastHsync := some 1000, frameOpen := true, reference := some ⟨15384, 262⟩, linesSeen := [262], stableCount := 20,
    stable := true, p := 15384, l := 262, lastP := 15384, lastL := 262, lastVsync := 500, lastEdge := some 500 }

/-- The request words of cell 0 as the intake copies them. -/
def jobOf (s : State) : Job := s.jobAt 0

/-- A job posted in cell 0 of a state, as the take would find it. -/
def postedAs (kind : Nat) (s : State) : Prop := NextJob s (jobOf s) kind

/-- A RUNNING slot 1 with a stable record, nothing on air. -/
def running : State := measured liveRecord (slotIn .running)

/-- Slot 1 on air in QUIET, seen and heard: PASS, level 100 at its target. -/
def onAir : State :=
  { measured liveRecord (slotIn .onAir) with
    ho := { HandOver.reset with onAir := some (.slot .s1) },
    raster := { Raster.reset with mode := .pass, crosspoint := some (.slot .s1), pass := some ⟨15384, 262⟩ },
    audio := { Audio.reset with
      wanted := some (.slot .s1), crosspoint := some (.slot .s1), current := 100, target := 100,
      ratios := Audio.reset.ratios.set (.slot .s1) 200 } }

/-- The state `onAir` with its map: input 0 PULSE 5 ms on pin 0, input 4 AUTOFIRE 30/20 ms on pin 4, input 5 DIRECT on pin
4; the slot is the driven one. -/
def playing : State :=
  { onAir with
    router := { Router.reset with
      driven := some .s1,
      maps := Router.reset.maps.set .s1 ⟨7, [⟨0, 0, 0, .pulse 5⟩, ⟨4, 4, 4, .autofire 30 20⟩, ⟨5, 5, 4, .direct⟩]⟩,
      entries := [[⟨.idle, false⟩], [⟨.idle, false⟩], [⟨.idle, false⟩]] } }

/-- Slot 1 RUNNING and stable, the target of a hand-over in ALIGN from no source, the cut armed at mtick 100. -/
def aligned : State :=
  { running with
    ho := { HandOver.reset with phase := .align, kind := .recovery, target := some (.slot .s1), cutFeed := true },
    raster := { Raster.reset with cutArm := some ⟨.slot .s1, false, 100⟩ },
    audio := { Audio.reset with ratios := Audio.reset.ratios.set (.slot .s1) 200 } }

/-- A state with a request at the head of the bus queue, and the transaction in a phase, cell 1 TAKEN. -/
def busy (q : BusRequest) (phase : BusPhase) : State :=
  { slotIn .loading with
    bus := { Bus.reset with queue := [q], phase := phase },
    intake := { Intake.reset with cells := Intake.reset.cells.set 1 .taken } }

/-- A read of 2 bytes for cell 1, and a write of 1 byte at address 32. -/
def readTwo : BusRequest := ⟨.read, .s1, 32, 2, [], [1]⟩
def writeOne : BusRequest := ⟨.write, .s1, 32, 1, [0x5A], [1]⟩

/-- The descriptor bytes of a board: class 5, name of twelve spaces, window bytes 0xF0 and 0x7F, the checksum byte last. -/
def goodBytes : List Byte :=
  [0x47, 0x44, 1, 5, 0, 9] ++ List.replicate 12 0x20 ++ [2, 3, 10, 10, 12, 30, 0xF0, 0x7F, 200, 2, 1, 0, 40, 0x41]

/-- Slot 1 LOADING with its AUTOLOAD transaction in flight. -/
def loading : State :=
  { slotIn .loading with bus := { Bus.reset with queue := [⟨.autoload, .s1, 0, 32, [], []⟩], phase := .reading } }

/-! ### WellFormed: an ill-formed term for each check -/

theorem test_wellFormed_accepts : (Instr.windowWrite 0x1FF9 1).wellFormed ∧ (Instr.writeNoEffect .control 0xFFFE).wellFormed ∧
    (Instr.readTransactionEnd [0]).wellFormed ∧ (Instr.ackMissing (.dataByte 7)).wellFormed ∧
    (Instr.vsyncLeadingEdge .menu .vertical ⟨0, 0⟩).wellFormed ∧ (Instr.pulseEntryEnd 23 0).wellFormed := by decide
theorem test_wellFormed_register_address : (Instr.windowWrite 0x1FFA 1).wellFormed = false := by decide
theorem test_wellFormed_named_bit : (Instr.writeNoEffect .control 1).wellFormed = false := by decide
theorem test_wellFormed_empty_read : (Instr.readTransactionEnd []).wellFormed = false := by decide
theorem test_wellFormed_long_read : (Instr.readTransactionEnd (List.replicate 33 0)).wellFormed = false := by decide
theorem test_wellFormed_data_byte : (Instr.ackMissing (.dataByte 8)).wellFormed = false := by decide
theorem test_wellFormed_slot_vsync : (Instr.vsyncLeadingEdge (.slot .s1) .vertical ⟨0, 0⟩).wellFormed = false := by decide
theorem test_wellFormed_slot_polarity : (Instr.polarityChange (.slot .s8) .vertical).wellFormed = false := by decide
theorem test_wellFormed_entries : (Instr.pulseEntryEnd 24 0).wellFormed = false ∧
    (Instr.autofireOnEnd 24 0).wellFormed = false ∧ (Instr.autofireOffEnd 24 0).wellFormed = false := by decide

/-- No row of the table gives bits, so no word spells a command. -/
theorem test_decode_none : decodeTableWord 16 1 = none ∧ State.reset.withFetchWord 16 1 = State.reset := by decide

/-! ### Worked examples of the spec -/

/-- Section 1.6: POST = 0x0024 posts cells 2 and 5; a second posting of cell 2 is CELL_BUSY with NOTICE bit 11. -/
theorem test_post_worked : (after (.post 0x0024) State.reset).intake.list = [2, 5] ∧
    (after (.post 0x0024) State.reset).readRegister .post = 0x0024 := by decide
theorem test_post_busy : (after (.post 0x0004) (after (.post 0x0024) State.reset)).intake.notice = 0x0800 ∧
    (after (.post 0x0004) (after (.post 0x0024) State.reset)).intake.faultReason = .cellBusy := by decide

/-- Section 2.9: the supply of 40 and the slots on it; POWER ON of slot 6 with eviction evicts slots 3 and 7. -/
def crowded : State :=
  let d (c : Nat) : Option Descriptor := some { board with drawClass := c, cool := 10, settle := 20 }
  let r (st : SlotState) : SlotRec := { SlotRec.reset with state := st }
  { State.reset with
    slots := ⟨r .empty, r .onAir, r .running, r .empty, { r .running with pinned := true }, r .off, r .running, r .off⟩,
    bus := { Bus.reset with copies := ⟨none, d 12, d 6, none, d 8, d 14, d 9, d 10⟩ },
    warm := [.s2, .s5, .s7, .s3], ho := { HandOver.reset with onAir := some (.slot .s2) } }
theorem test_power_on_evicts : (after .powerOn (posted [3, 0, 6, 1, 1] crowded)).warm = [.s6, .s2, .s5] ∧
    (after .powerOn (posted [3, 0, 6, 1, 1] crowded)).draw = 34 ∧
    ((after .powerOn (posted [3, 0, 6, 1, 1] crowded)).slot .s6).mask = 0x0088 := by decide
theorem test_power_on_no_budget : (after .powerOn (posted [3, 0, 8, 1, 0] crowded)).readMem 16 = 6 ∧
    (after .powerOn (posted [3, 0, 8, 1, 0] crowded)).readMem 17 = 35 := by decide

/-- Sections 3.1 and 3.8: window bytes, and a window written in the wrong order: FIELD with index 25. -/
theorem test_window_values : windowValue 128 = 128 ∧ windowValue 255 = 255 ∧ windowValue 0 = 256 ∧ windowValue 127 = 383 := by
  decide
theorem test_field_detail : (Undescribed.field 25).detail = 0x1905 := by decide
theorem test_good_descriptor : descriptorFailure goodBytes = none := by decide
theorem test_window_order : descriptorFailure ((goodBytes.set 25 0xE8).set 31 0xD8) = some (.field 25) := by decide

/-- Section 4.8: candidates. -/
theorem test_candidates : candidate 399632 262 = 24405 ∧ candidate 402868 419 = 15384 ∧ candidate 403349 419 = 15402 ∧
    candidate 403349 420 = 15366 := by decide

/-- Section 5.7: the first holding lines at P = 24405, a glide step, and the alignment errors. -/
theorem test_holding_line : (after .holdingLineStart State.reset).raster.lineLength = 1525 ∧
    (after .holdingLineStart State.reset).raster.acc = 5 := by decide
theorem test_glide_step : stepToward 24405 15384 256 = 24149 ∧ stepToward 262 419 8 = 270 ∧ stepToward 15445 15384 256 = 15384 := by
  decide

/-- Section 9.9: coin A of width 40 worth 2 units on an open feed; section 9.10: a full bank. -/
def coinState : State :=
  { onAir with credit := { Credit.reset with
      bank := 10, granted := 10, feed := Credit.reset.feed.set .s1 true, coinA := .measuring 40,
      setup := ⟨2, 1, 20, 120, 12, 60, 60⟩ } }
theorem test_coin_to_feed : (after (.coinPulseEnd .a) coinState).credit.bank = 10 ∧
    (after (.coinPulseEnd .a) coinState).credit.pending.get .s1 = 2 ∧
    (after (.coinPulseEnd .a) coinState).credit.coins = 2 := by decide
theorem test_coin_full_bank :
    let s := { State.reset with credit := { Credit.reset with bank := 9998, coinA := .measuring 40, setup := ⟨2, 1, 20, 120, 50, 60, 60⟩ } }
    (after (.coinPulseEnd .a) s).credit.bank = 9999 ∧ (after (.coinPulseEnd .a) s).credit.unbanked = 1 ∧
      (after (.coinPulseEnd .a) s).credit.meterPending = 2 := by decide

/-- Section 10.7: levels. -/
theorem test_levels : levelFormula 200 180 40 = 141 ∧ levelFormula 200 178 0 = 140 ∧ levelFormula 128 200 0 = 100 ∧
    levelFormula 50 100 40 = 40 ∧ levelFormula 255 0 40 = 40 ∧ levelFormula 0 255 40 = 0 := by decide

/-! ### Witnesses: for each statement with hypotheses, states and operands that meet them, at the ends of ranges -/

/-- A state with nothing due at once: pages shown, the first holding line begun. -/
def calm : State :=
  { State.reset with
    pages := ⟨⟨⟨0, false⟩, PerSlot.const ⟨0, false⟩⟩, ⟨0, false⟩⟩,
    raster := { Raster.reset with lineBegun := true, lineLength := 1525 } }

theorem witness_TickCountsTimers : calm.pending = [] ∧ calm.scan = 0 ∧ calm.dueNow = [] := by decide

theorem witness_StepKeepsWindowSound : WindowSound (posted [0xFFFF, 1] State.reset) ∧
    ∃ t, Machine.step (posted [0xFFFF, 1] State.reset) = .next t :=
  ⟨⟨by decide, by decide, by decide, by decide, by decide⟩, _, rfl⟩

theorem witness_CoinUnitsConserved :
    let s := { State.reset with credit := { Credit.reset with bank := 9999, coins := 9998, granted := 1, meterPending := 65535 } }
    CoinsConserved s ∧ CreditBounded s ∧ ∃ t, Machine.step s = .next t :=
  ⟨by unfold CoinsConserved; decide, by unfold CreditBounded; decide, _, rfl⟩

theorem witness_StepKeepsAirSound : AirSound onAir ∧ ∃ t, Machine.step onAir = .next t :=
  ⟨⟨by decide, by decide, by decide⟩, _, rfl⟩

theorem witness_StepKeepsSupplySound : SupplySound running ∧ ∃ t, Machine.step running = .next t :=
  ⟨⟨by decide, by intro i; cases i <;> decide, by decide, by decide, by intro i; cases i <;> decide⟩, _, rfl⟩

theorem witness_StepKeepsPhaseSound : PhaseSound aligned ∧ ∃ t, Machine.step aligned = .next t :=
  ⟨⟨by decide, by decide, by decide, by decide, by decide, by decide, by decide, by decide, by intro i; cases i <;> decide⟩,
    _, rfl⟩

theorem witness_MemoryWriteReadsBack : State.reset.window.wf = true ∧ (0x0000 : BitVec 13).toNat < 0x1FFA ∧
    (0x1FF9 : BitVec 13).toNat < 0x1FFA := by decide

theorem witness_SoftRestartAtOnce : (1 : Word).getLsbD 0 = true ∧ State.reset.intake.restarting = false ∧
    State.reset.bus.phase = .idle ∧ State.reset.bus.stopping = false ∧
    (loading.intake.restarting = false ∧ loading.bus.queue = [⟨.autoload, .s1, 0, 32, [], []⟩] ∧
      BusRequest.isLoad ⟨.autoload, .s1, 0, 32, [], []⟩ = true ∧ loading.bus.stopping = false) ∧
    let s := busy writeOne (.polling 9 24000)
    s.intake.restarting = false ∧ s.bus.phase = .polling 9 24000 ∧ 0x80000000 ≤ (s.sync.mtick - 24000).toNat ∧
      s.bus.stopping = false ∧ s.bus.queue = [writeOne] ∧
      writeOne.isLoad = false ∧ 32 ≤ writeOne.addr := by decide

theorem witness_SoftRestartWaitsForBus :
    let s := busy readTwo .reading
    let u := { busy writeOne .writing with
      intake := { Intake.reset with restarting := true }, bus := { Bus.reset with queue := [writeOne], stopping := true } }
    (s.intake.restarting = false ∧ s.bus.queue = [readTwo] ∧ readTwo.isLoad = false ∧ s.bus.phase = .reading) ∧
      u.intake.restarting = true ∧ u.bus.stopping = true ∧ u.bus.queue = [writeOne] ∧ 32 ≤ writeOne.addr := by decide

/-- R63: a restart that finds a poll in progress, its ms tick come, waits for it; acknowledged it ends with no recovery
interval, as the 10th does unacknowledged, and an earlier one with an interval. -/
theorem witness_SoftRestartWaitsForBus_poll :
    let s (n : Nat) : State := after (.softRestart 1) (busy writeOne (.polling n 0))
    ((s 8).readRegister .control = 1 ∧ (s 8).bus.stopping = true ∧ (s 8).bus.phase = .polling 8 0 ∧
      (s 8).bus.queue = [writeOne] ∧ ((s 8).sync.mtick - 0).toNat < 0x80000000) ∧
    (after (.ackPoll true) (s 8)).readRegister .control = 0 ∧ (after (.ackPoll true) (s 8)).bus.recovery = none ∧
    (after (.ackPoll false) (s 8)).bus.recovery = some (.s1, 240000) ∧
    (after (.softRestartEnd true) (s 8)).bus.recovery = some (.s1, 240000) ∧
    (after .writeTimeout (s 9)).readRegister .control = 0 ∧ (after .writeTimeout (s 9)).bus.recovery = none := by decide

theorem witness_PageUpdateWrites : State.reset.window.wf = true ∧ (State.reset.pages.get .cabinet).mark = true ∧
    (State.reset.pages.get .cabinet).count.getLsbD 0 = false ∧
    ((running.pages.get (.source (.slot .s1))).mark = true ∧
      (running.pages.get (.source (.slot .s1))).count.getLsbD 0 = false ∧
      (after (.pageUpdateStart (.source (.slot .s1))) running).pageWord (.source (.slot .s1)) 1 = 6 ∧
      (after (.pageUpdateStart (.source (.slot .s1))) running).pageWord (.source (.slot .s1)) 19 = 188 * 64) ∧
    (after (.pageUpdateStart .cabinet) State.reset).window.wf = true ∧
    ((after (.pageUpdateStart .cabinet) State.reset).pages.get .cabinet).count.getLsbD 0 = true := by decide

theorem witness_TakeErrorsComplete :
    (posted [] State.reset).window.wf = true ∧ (posted [] State.reset).headJob = some (jobOf (posted [] State.reset)) ∧
    (jobOf (posted [] State.reset)).word 0 < 1 ∧ 10 < (jobOf (posted [11] State.reset)).word 0 ∧
    (posted [7, 0, 5] State.reset).headJob = some (jobOf (posted [7, 0, 5] State.reset)) ∧
    (jobOf (posted [7, 0, 5] State.reset)).word 0 = 7 ∧ 4 < (jobOf (posted [7, 0, 5] State.reset)).word 2 := by decide

theorem witness_SwitchFromHold : postedAs 1 (posted [1, 0, 1, 0xFFFF, 7] running) ∧
    Source.ofNumber ((jobOf (posted [1, 0, 1, 0xFFFF, 7] running)).word 2) = some (.slot .s1) ∧
    running.ho.phase = .quiet ∧ running.ho.onAir = none ∧
    Reaches (posted [1, 0, 1, 0xFFFF, 7] running) (.slot .s1) .glide ∧
    Reaches (posted [1, 0, 0] State.reset) .menu .waitTarget ∧
    Reaches (posted [1, 0, 1] (slotIn .lost)) (.slot .s1) .waitTarget := by
  unfold postedAs NextJob Reaches Ready Awaited; decide

/-- A cold target that just fits the budget, and one that is COOLING. -/
theorem witness_SwitchFromHold_cold :
    let s := { posted [1, 0, 1] (slotIn .off) with budget := 5 }
    let u := posted [1, 0, 1] (slotIn .cooling)
    (postedAs 1 s ∧ s.ho.phase = .quiet ∧ s.ho.onAir = none ∧ (s.slot .s1).state = .off ∧ (s.slot .s1).powerUp = none ∧
      s.copy .s1 = some board ∧ s.draw + board.drawClass ≤ s.budget) ∧
    postedAs 1 u ∧ u.ho.onAir = none ∧ (u.slot .s1).state = .cooling ∧ u.copy .s1 = some board := by
  unfold postedAs NextJob; decide

/-- The refusals of R103 with their details, and a target that is on air already. -/
theorem witness_SwitchFromHold_refused :
    let s (st : SlotState) : State := posted [1, 0, 1] (slotIn st)
    let short := { s .off with budget := 4 }
    let wide := posted [1, 0, 1] (measured { liveRecord with lastP := 25601 } (slotIn .running))
    (postedAs 1 (posted [1, 0, 9] State.reset) ∧ Source.ofNumber ((jobOf (posted [1, 0, 9] State.reset)).word 2) = none) ∧
    (∀ st ∈ [SlotState.empty, .loading, .undescribed, .fault],
      postedAs 1 (s st) ∧ Source.ofNumber ((jobOf (s st)).word 2) = some (.slot .s1) ∧ ((s st).slot .s1).state = st ∧
        ((s st).slot .s1).powerUp = none ∧ (s st).ho.phase = .quiet ∧ (s st).ho.onAir ≠ some (.slot .s1) ∧
        (s st).raster.cutArm = none) ∧
    ((wide.slot .s1).state = .running ∧ wide.fitsMonitor (.slot .s1) = false) ∧
    ((short.slot .s1).state = .off ∧ short.budget < short.draw + short.drawClass .s1 ∧ (jobOf short).bit 4 1 = false) ∧
    postedAs 1 (posted [1, 0, 1] onAir) ∧ onAir.ho.onAir = some (.slot .s1) ∧ onAir.raster.cutArm = none := by
  unfold postedAs NextJob; decide

theorem witness_SwitchFadesOut : postedAs 1 (posted [1, 0, 0] onAir) ∧
    Source.ofNumber ((jobOf (posted [1, 0, 0] onAir)).word 2) = some .menu ∧ onAir.ho.phase = .quiet ∧
    onAir.ho.onAir = some (.slot .s1) ∧ (Source.slot .s1) ≠ .menu ∧ 0 < onAir.audio.current ∧ 0 < onAir.audio.ramp := by
  unfold postedAs NextJob; decide

/-- Slot 1's fellow RUNNING while source 0 is on air: the other form of the target. -/
theorem witness_SwitchFadesOut_slot :
    let s := { posted [1, 0, 1] running with
      ho := { HandOver.reset with onAir := some .menu }, audio := { Audio.reset with current := 1 } }
    postedAs 1 s ∧ s.ho.onAir = some .menu ∧ (s.slot .s1).state = .running ∧ s.fitsMonitor (.slot .s1) = true ∧
      0 < s.audio.current := by unfold postedAs NextJob; decide

/-- Slot 1 on air at level 60 below its own, a hand-over in a phase before release to a target, its job in cell 1. -/
def leaving (p : Phase) (target : Source) (words : List Nat) : State :=
  { posted words onAir with
    intake := { (posted words onAir).intake with cells := (posted words onAir).intake.cells.set 1 .taken },
    ho := { HandOver.reset with
      phase := p, kind := .requested, onAir := some (.slot .s1), outgoing := some (.slot .s1), target := some target,
      active := some ⟨1, target, 3, true, false, false⟩, releaseTimer := some 100 },
    audio := { onAir.audio with current := 60, target := 0 } }

/-- Slot 1 released and the outgoing, a hand-over in a phase between release and cut, its job in cell 1. -/
def leftFor (p : Phase) (target : Source) (words : List Nat) : State :=
  { posted words running with
    intake := { (posted words running).intake with cells := (posted words running).intake.cells.set 1 .taken },
    ho := { HandOver.reset with
      phase := p, kind := .requested, outgoing := some (.slot .s1), target := some target,
      active := some ⟨1, target, 3, true, false, false⟩ } }

theorem witness_SoftRestartAtOnce_handOver :
    let s (p : Phase) : State := leaving p .menu []
    let u := leftFor .waitTarget (.slot .s1) []
    (HeardAt (s .fadeOut) (.slot .s1) ∧ HeardAt (s .release) (.slot .s1) ∧
      (s .release).intake.restarting = false ∧ (s .release).bus.phase = .idle ∧ (s .release).bus.stopping = false ∧
      (after (.softRestart 1) (s .release)).ho.phase = .fadeIn) ∧
    (u.ho.kind = .requested ∧ u.ho.phase.beforeCut = true ∧ u.bus.phase = .idle ∧
      (after (.softRestart 1) u).ho.kind = .fallback ∧ (after (.softRestart 1) u).ho.lastFallback = .restart) ∧
    (after (.softRestart 1) { u with ho := { u.ho with kind := .recovery } }).ho.kind = .recovery :=
  ⟨⟨⟨by decide, by decide, by decide, by decide⟩, ⟨by decide, by decide, by decide, by decide⟩, by decide⟩, by decide⟩

theorem leaving_held (p : Phase) (words : List Nat) :
    HeldBeside (leaving p .menu words) (jobOf (leaving p .menu words)) (leaving p .menu words).ho.active := by
  intro k h
  injection h with h
  subst h
  exact ⟨rfl, show (1 : CellNo) ≠ 0 by decide⟩

theorem leftFor_held (p : Phase) (words : List Nat) :
    HeldBeside (leftFor p .menu words) (jobOf (leftFor p .menu words)) (leftFor p .menu words).ho.active := by
  intro k h
  injection h with h
  subst h
  exact ⟨rfl, show (1 : CellNo) ≠ 0 by decide⟩

/-- Before release: another target, the same target, and the source still on air, which cancels. -/
theorem witness_SwitchFadesOut_before_release :
    postedAs 1 (leaving .fadeOut .menu [1, 0, 0]) ∧ (leaving .fadeOut .menu [1, 0, 0]).ho.onAir ≠ some .menu ∧
      (leaving .fadeOut .menu [1, 0, 0]).ho.target = some .menu ∧
    postedAs 1 (leaving .release .menu [1, 0, 1]) ∧
      Source.ofNumber ((jobOf (leaving .release .menu [1, 0, 1])).word 2) = some (.slot .s1) ∧
      HeardAt (leaving .release .menu [1, 0, 1]) (.slot .s1) ∧ NothingPending (leaving .release .menu [1, 0, 1]) := by
  unfold postedAs NextJob
  exact ⟨by decide, by decide, by decide, by decide, by decide, ⟨by decide, by decide, by decide, by decide⟩,
    by intro i h; cases h⟩

/-- Between release and cut: back to the released slot, which is ready; and in FADE_IN with a job that waits in cell 1. -/
theorem witness_SwitchFadesOut_before_cut :
    let s := leftFor .align .menu [1, 0, 1]
    let u := { s with ho := { s.ho with phase := .fadeIn, waiting := s.ho.active } }
    postedAs 1 s ∧ Reaches s (.slot .s1) .glide ∧ s.ho.onAir ≠ some (.slot .s1) ∧ s.ho.phase.beforeCut = true ∧
      s.ho.target ≠ some (.slot .s1) ∧ postedAs 1 u ∧ u.ho.phase = .fadeIn ∧ u.ho.waiting = s.ho.active := by
  unfold postedAs NextJob Reaches Ready Awaited; decide

theorem witness_AbortByPhase :
    let at_ (p : Phase) : State := { posted [2] State.reset with ho := { HandOver.reset with phase := p, target := some .menu } }
    (postedAs 2 (at_ .quiet) ∧ (at_ .quiet).ho.phase = .quiet) ∧
      (postedAs 2 (at_ .fadeIn) ∧ (at_ .fadeIn).ho.phase = .fadeIn ∧ (at_ .fadeIn).ho.waiting = none) ∧
      (postedAs 2 (at_ .waitTarget) ∧ (at_ .waitTarget).ho.phase.beforeCut = true ∧ (at_ .waitTarget).ho.outgoing = none ∧
        (at_ .waitTarget).ho.active = none) ∧
      (postedAs 2 (leaving .release .menu [2]) ∧ HeardAt (leaving .release .menu [2]) (.slot .s1)) ∧
      postedAs 2 (leftFor .glide .menu [2]) ∧ (leftFor .glide .menu [2]).ho.outgoing = some (.slot .s1) ∧
        Ready (leftFor .glide .menu [2]) (.slot .s1) ∧ (leftFor .glide .menu [2]).fitsMonitor (.slot .s1) = true := by
  unfold postedAs NextJob Ready
  exact ⟨by decide, by decide, by decide, ⟨by decide, by decide, by decide, by decide, by decide⟩, by decide⟩

theorem witness_PowerOffResult :
    let s := posted [3, 0, 1, 0] running
    let u := posted [3, 0, 1, 0] onAir
    let v := posted [3, 0, 1, 2] onAir
    (postedAs 3 s ∧ Slot.ofNumber ((jobOf s).word 2) = some .s1 ∧ (jobOf s).word 3 = 0 ∧ s.involved .s1 = false ∧
      (s.slot .s1).state.powered = true ∧ (s.slot .s1).jobCell = none) ∧
    (postedAs 3 u ∧ u.involved .s1 = true ∧ (jobOf u).word 3 = 0) ∧
    postedAs 3 v ∧ v.involved .s1 = true ∧ (jobOf v).word 3 = 2 := by unfold postedAs NextJob; decide

theorem witness_PowerOnResult :
    let s := { posted [3, 0, 1, 1] (slotIn .off) with budget := 5 }
    let u := { s with budget := 4 }
    let v := posted [3, 0, 1, 1] { slotIn .settling with
      slots := State.reset.slots.set .s1 { SlotRec.reset with
        state := .settling, powerUp := some ⟨some (3, false), none, false, 0⟩ } }
    (postedAs 3 s ∧ (jobOf s).word 3 = 1 ∧ Slot.ofNumber ((jobOf s).word 2) = some .s1 ∧ (s.slot .s1).state = .off ∧
      (s.slot .s1).powerUp = none ∧ s.copy .s1 = some board ∧ s.draw + board.drawClass ≤ s.budget) ∧
    (postedAs 3 u ∧ (u.slot .s1).jobCell = none ∧ u.budget < u.draw + u.drawClass .s1 ∧ (jobOf u).bit 4 0 = false) ∧
    postedAs 3 v ∧ (v.slot .s1).jobCell.isSome = true := by unfold postedAs NextJob; decide

/-- Section 2.9's supply with slot 6 asked for: it fits once slots 3 and 7 are out, and with slot 7 pinned not at all. -/
theorem witness_PowerOnResult_evicting :
    let s := posted [3, 0, 6, 1, 1] crowded
    let u := { s with slots := s.slots.set .s7 { s.slot .s7 with pinned := true } }
    EvictsFor s .s6 [.s3, .s7] ∧
    (postedAs 3 s ∧ (s.slot .s6).state = .off ∧ (s.slot .s6).powerUp = none ∧ (jobOf s).bit 4 0 = true ∧
      s.warm.Nodup ∧ s.budget < s.draw + s.drawClass .s6) ∧
    postedAs 3 u ∧ u.budget + u.classSum u.evictable < u.draw + u.drawClass .s6 ∧
      (after .powerOn u).readMem 16 = 6 :=
  ⟨⟨by decide, by decide, by decide⟩, by unfold postedAs NextJob; decide⟩

theorem witness_PowerCycleRunning :
    let s := posted [3, 0, 1, 2] running
    postedAs 3 s ∧ (jobOf s).word 3 = 2 ∧ Slot.ofNumber ((jobOf s).word 2) = some .s1 ∧ s.involved .s1 = false ∧
      (s.slot .s1).state = .running ∧ (s.slot .s1).powerUp = none ∧ s.copy .s1 = some board := by
  unfold postedAs NextJob; decide

theorem witness_PinAndUnpin :
    let s := posted [3, 0, 1, 3] running
    let u := posted [3, 0, 8, 4] running
    (postedAs 3 s ∧ Slot.ofNumber ((jobOf s).word 2) = some .s1 ∧ (jobOf s).word 3 = 3 ∧ (s.slot .s1).state ≠ .empty) ∧
    postedAs 3 u ∧ Slot.ofNumber ((jobOf u).word 2) = some .s8 ∧ (jobOf u).word 3 = 4 ∧ (u.slot .s8).state = .empty := by
  unfold postedAs NextJob; decide

theorem witness_SupplyBudgetSet :
    let s (b : Nat) : State := posted [7, 0, 4, b] running
    (∀ b ∈ [5, 120], postedAs 7 (s b) ∧ (jobOf (s b)).word 2 = 4 ∧ 1 ≤ (jobOf (s b)).word 3 ∧
      (jobOf (s b)).word 3 ≤ 120 ∧ (s b).draw ≤ (jobOf (s b)).word 3) ∧
    (jobOf (s 0)).word 3 < 1 ∧ 120 < (jobOf (s 121)).word 3 ∧ (jobOf (s 4)).word 3 < (s 4).draw := by
  unfold postedAs NextJob; decide

/-- Slot 1's staging area with one entry: inputs 0 to 31 on pins 8 to 39, DIRECT; label 9. -/
def staged (s : State) : State := { s with window := (s.window.writeAll 0x200 [1, 9]).writeAll 0x204 [0x1F00, 8, 0, 0] }
def stagedMap1 : ControlMap := ⟨9, [⟨0, 31, 8, .direct⟩]⟩

theorem witness_ControlMapLoad_admitted :
    let s := staged (posted [4, 0, 1] running)
    let u := staged (posted [4, 0, 1] onAir)
    (postedAs 4 s ∧ Slot.ofNumber ((jobOf s).word 2) = some .s1 ∧
      (s.slot .s1).state ∉ [SlotState.empty, .loading, .undescribed] ∧ s.router.pendingMaps.get .s1 = none ∧
      s.stagedMap .s1 (s.figure .s1 Descriptor.pinCount) = .inr stagedMap1 ∧ s.ho.onAir ≠ some (.slot .s1) ∧
      s.router.driven ≠ some .s1) ∧
    postedAs 4 u ∧ u.stagedMap .s1 (u.figure .s1 Descriptor.pinCount) = .inr stagedMap1 ∧
      u.ho.onAir = some (.slot .s1) := by unfold postedAs NextJob; decide

/-- A map of 25 entries is refused with detail 255; a pin base of 9 with field code 2 at entry 0 (R146). -/
theorem witness_ControlMapLoad_refused :
    let s := posted [4, 0, 1] { running with window := running.window.writeAll 0x200 [25] }
    let u := staged (posted [4, 0, 1] running)
    (postedAs 4 s ∧ s.stagedMap .s1 (s.figure .s1 Descriptor.pinCount) = .inl 255) ∧
    { u with window := u.window.write 0x205 9 }.stagedMap .s1 40 = .inl 0x0200 := by unfold postedAs NextJob; decide

theorem witness_ControlMapLoad_install :
    let s := { playing with
      router := { playing.router with pendingMaps := playing.router.pendingMaps.set .s1 (some (stagedMap1, 15)) },
      intake := { Intake.reset with cells := Intake.reset.cells.set 15 .taken } }
    s.window.wf = true ∧ s.router.pendingMaps.get .s1 = some (stagedMap1, 15) ∧ s.cell 15 = .taken ∧
      s.router.driven = some .s1 := by decide

theorem witness_GrantAndWithdraw :
    let s (a n : Nat) : State := posted [5, 0, a, n] State.reset
    (∀ n ∈ [1, 9999], postedAs 5 (s 0 n) ∧ 1 ≤ (jobOf (s 0 n)).word 3 ∧ (jobOf (s 0 n)).word 3 ≤ 9999 ∧
      (jobOf (s 0 n)).word 2 = 0 ∧ postedAs 5 (s 1 n) ∧ (jobOf (s 1 n)).word 2 = 1) ∧
    (jobOf (s 0 0)).word 3 < 1 ∧ 9999 < (jobOf (s 1 10000)).word 3 := by unfold postedAs NextJob; decide

theorem witness_CreditDelivery :
    let s := posted [5, 0, 2, 9999] onAir
    let u := posted [5, 0, 2, 1] State.reset
    (postedAs 5 s ∧ (jobOf s).word 2 = 2 ∧ 1 ≤ (jobOf s).word 3 ∧ (jobOf s).word 3 ≤ 9999 ∧ s.ho.phase = .quiet ∧
      s.ho.onAir = some (.slot .s1) ∧ s.copy .s1 = some board) ∧
    postedAs 5 u ∧ (jobOf u).word 2 = 2 ∧ 1 ≤ (jobOf u).word 3 ∧ u.ho.onAir = none := by unfold postedAs NextJob; decide

theorem witness_CreditRecalled :
    let s (n : Nat) : State := posted [5, 0, 3, 0, n] State.reset
    (postedAs 5 (s 8) ∧ (jobOf (s 8)).word 2 = 3 ∧ Slot.ofNumber ((jobOf (s 8)).word 4) = some .s8) ∧
    postedAs 5 (s 9) ∧ Slot.ofNumber ((jobOf (s 9)).word 4) = none ∧ Slot.ofNumber ((jobOf (s 0)).word 4) = none := by
  unfold postedAs NextJob; decide

theorem witness_LevelsSet :
    let s (item src v : Nat) : State := posted [6, 0, item, src, v] onAir
    (∀ item ∈ [0, 2, 3, 4], postedAs 6 (s item 0 256) ∧ (jobOf (s item 0 256)).word 2 = item) ∧
    ((s 0 0 0).ho.phase = .quiet ∧ (s 0 0 0).audio.wanted = some (.slot .s1) ∧
      (s 0 0 0).audio.crosspoint = some (.slot .s1) ∧ 0 < (jobOf (s 3 0 1)).word 4 ∧ 3 < (jobOf (s 4 0 0)).word 2) ∧
    postedAs 6 (s 1 8 255) ∧ (jobOf (s 1 8 255)).word 2 = 1 ∧
      Source.ofNumber ((jobOf (s 1 8 255)).word 3) = some (.slot .s8) ∧ (Source.slot .s8) ≠ .slot .s1 ∧
      postedAs 6 (s 1 9 255) ∧ Source.ofNumber ((jobOf (s 1 9 255)).word 3) = none := by unfold postedAs NextJob; decide

theorem witness_MonitorAndGlideSet_monitor :
    let s (rest lines : Nat) : State := posted [7, 0, 0, 8192, 32752, rest, lines] State.reset
    let u := { s 8192 200 with ho := { HandOver.reset with phase := .waitTarget, target := some .menu } }
    let v := { posted [7, 0, 0, 8192, 15384, 15384, 700] onAir with ho := onAir.ho }
    (∀ x ∈ [s 8192 200, s 32752 700], postedAs 7 x ∧ (jobOf x).word 2 = 0 ∧ 8192 ≤ (jobOf x).word 3 ∧
      (jobOf x).word 4 ≤ 32752 ∧ (jobOf x).word 3 ≤ (jobOf x).word 5 ∧ (jobOf x).word 5 ≤ (jobOf x).word 4 ∧
      200 ≤ (jobOf x).word 6 ∧ (jobOf x).word 6 ≤ 700 ∧ x.ho.phase = .quiet ∧ x.ho.onAir = none ∧
      (jobOf x).word 3 ≤ x.raster.p ∧ x.raster.p ≤ (jobOf x).word 4) ∧
    (postedAs 7 u ∧ u.ho.phase ≠ .quiet) ∧
    postedAs 7 v ∧ v.ho.onAir = some (.slot .s1) ∧ (jobOf v).word 3 ≤ (v.record (.slot .s1)).lastP ∧
      (v.record (.slot .s1)).lastP ≤ (jobOf v).word 4 ∧ v.raster.mode ≠ .hold := by unfold postedAs NextJob; decide

theorem witness_MonitorAndGlideSet_glide :
    ∀ x ∈ [posted [7, 0, 1, 1, 1, 1, 10] State.reset, posted [7, 0, 1, 4096, 64, 16, 1000] onAir],
      postedAs 7 x ∧ (jobOf x).word 2 = 1 ∧ 1 ≤ (jobOf x).word 3 ∧ (jobOf x).word 3 ≤ 4096 ∧ 1 ≤ (jobOf x).word 4 ∧
        (jobOf x).word 4 ≤ 64 ∧ 1 ≤ (jobOf x).word 5 ∧ (jobOf x).word 5 ≤ 16 ∧ 10 ≤ (jobOf x).word 6 ∧
        (jobOf x).word 6 ≤ 1000 := by unfold postedAs NextJob; decide

theorem witness_ChordAndCoinSet_chord :
    ∀ x ∈ [posted [7, 0, 2, 1, 0, 5, 0] State.reset, posted [7, 0, 2, 0, 0xF000, 50, 1] State.reset],
      postedAs 7 x ∧ (jobOf x).word 2 = 2 ∧
        1 ≤ maskCount (BitVec.ofNat 32 ((jobOf x).word 3 + 65536 * (jobOf x).word 4)) ∧
        maskCount (BitVec.ofNat 32 ((jobOf x).word 3 + 65536 * (jobOf x).word 4)) ≤ 4 ∧ 5 ≤ (jobOf x).word 5 ∧
        (jobOf x).word 5 ≤ 50 ∧ (jobOf x).word 6 ≤ 1 := by unfold postedAs NextJob; decide

theorem witness_ChordAndCoinSet_coin :
    ∀ x ∈ [posted [7, 0, 3, 1, 1, 5, 5, 1, 20, 20] State.reset, posted [7, 0, 3, 9, 9, 100, 500, 9999, 255, 255] State.reset],
      postedAs 7 x ∧ (jobOf x).word 2 = 3 ∧ 1 ≤ (jobOf x).word 3 ∧ (jobOf x).word 3 ≤ 9 ∧ 1 ≤ (jobOf x).word 4 ∧
        (jobOf x).word 4 ≤ 9 ∧ 5 ≤ (jobOf x).word 5 ∧ (jobOf x).word 5 ≤ 100 ∧ (jobOf x).word 5 ≤ (jobOf x).word 6 ∧
        (jobOf x).word 6 ≤ 500 ∧ 1 ≤ (jobOf x).word 7 ∧ (jobOf x).word 7 ≤ 9999 ∧ 20 ≤ (jobOf x).word 8 ∧
        (jobOf x).word 8 ≤ 255 ∧ 20 ≤ (jobOf x).word 9 ∧ (jobOf x).word 9 ≤ 255 := by
  unfold postedAs NextJob; decide

theorem witness_EepromJobsQueued :
    let r (a n : Nat) : State := posted [8, 0, 1, a, n] running
    let w (a n : Nat) : State := posted [9, 0, 1, a, n] running
    (∀ x ∈ [r 0 1, r 240 16, r 255 1], (jobOf x).word 0 = 8 ∧ (jobOf x).word 4 ≤ 16 ∧
      (jobOf x).word 3 + (jobOf x).word 4 ≤ 256 ∧ x.headJob = some (jobOf x) ∧
      Slot.ofNumber ((jobOf x).word 2) = some .s1 ∧ (jobOf x).word 3 ≤ 255 ∧ 1 ≤ (jobOf x).word 4 ∧ x.window.wf = true) ∧
    (∀ x ∈ [w 32 8, w 255 1], (jobOf x).word 0 = 9 ∧ (jobOf x).word 4 ≤ 8 ∧
      (jobOf x).word 3 % 8 + (jobOf x).word 4 ≤ 8 ∧ 32 ≤ (jobOf x).word 3 ∧ x.headJob = some (jobOf x)) ∧
    (jobOf (w 31 1)).word 0 = 9 ∧ (jobOf (w 31 1)).word 3 < 32 ∧ (w 31 1).router.operatorKey = false ∧
      ((w 31 1).slot .s1).state ≠ .empty ∧ ((w 31 1).slot .s1).state ≠ .loading := by decide

theorem witness_ReloadByState :
    let s (st : SlotState) : State := posted [10, 0, 1] (slotIn st)
    (postedAs 10 (s .off) ∧ Slot.ofNumber ((jobOf (s .off)).word 2) = some .s1 ∧ ((s .off).slot .s1).state = .off) ∧
    (postedAs 10 (s .loading) ∧ ((s .loading).slot .s1).state = .loading) ∧
    (postedAs 10 (s .empty) ∧ ((s .empty).slot .s1).state = .empty) ∧
    postedAs 10 (s .cooling) ∧ ((s .cooling).slot .s1).state = .cooling := by unfold postedAs NextJob; decide

theorem witness_PresenceStartsLoad : (State.reset.slot .s8).state = .empty := by decide

theorem witness_RemovalEmptiesSlot : (running.slot .s1).state ≠ .empty ∧ Aside running .s1 ∧
    running.bus.stopping = false ∧
    let s := busy readTwo .reading
    s.window.wf = true ∧ Held s [1] ∧ (after (.removal .s1) s).cell 1 = .done ∧
      (after (.removal .s1) s).bus.phase = .idle := by unfold Aside Held; decide

theorem witness_OnAirRemovalFallsBack : onAir.ho.phase = .quiet ∧ onAir.ho.onAir = some (.slot .s1) ∧
    (onAir.slot .s1).state ≠ .empty ∧ onAir.raster.mode = .pass ∧ onAir.bus.stopping = false := by decide

theorem witness_OvercurrentFaults :
    let s := { slotIn .starting with
      slots := State.reset.slots.set .s1 { SlotRec.reset with
        state := .starting, powerUp := some ⟨some (1, true), none, false, 0x0080⟩ },
      intake := { Intake.reset with cells := Intake.reset.cells.set 1 .taken } }
    (running.slot .s1).state.powered = true ∧ Aside running .s1 ∧ (s.slot .s1).state.powered = true ∧ Aside s .s1 ∧
      (s.slot .s1).jobCell = some 1 ∧ s.cell 1 = .taken ∧ s.window.wf = true ∧
      (after (.overcurrent .s1) s).readMem 48 = 20 ∧ (after (.overcurrent .s1) s).readMem 51 = 0x0080 := by
  unfold Aside; decide

theorem witness_SettleEndsInStarting : ((slotIn .settling).slot .s1).state = .settling ∧
    (slotIn .settling).copy .s1 = some board := by decide

theorem witness_ExpiryDecidesRestart : Aside (slotIn .starting) .s1 ∧ ((slotIn .starting).slot .s1).jobCell = none ∧
    ((slotIn .starting).slot .s1).state = .starting ∧ Aside (slotIn .lost) .s1 ∧
    ((slotIn .lost).slot .s1).jobCell = none ∧ ((slotIn .lost).slot .s1).state = .lost := by unfold Aside; decide

theorem witness_CoolingEnds :
    let s := slotIn .cooling
    let u := { s with bus := { s.bus with stale := s.bus.stale.set .s1 true } }
    let p : PowerUp := ⟨some (0, true), none, true, 0⟩
    let v := { s with slots := State.reset.slots.set .s1 { SlotRec.reset with state := .cooling, powerUp := some p }, budget := 5 }
    ((s.slot .s1).state = .cooling ∧ s.bus.stale.get .s1 = false ∧ (s.slot .s1).powerUp = none) ∧
    ((u.slot .s1).state = .cooling ∧ u.bus.stale.get .s1 = true) ∧
    (v.slot .s1).state = .cooling ∧ v.bus.stale.get .s1 = false ∧ (v.slot .s1).powerUp = some p ∧ p.handOver = none ∧
      v.copy .s1 = some board ∧ v.draw + board.drawClass ≤ v.budget := by decide

/-- A read that waits for the recovery interval of a STOP at mtick 500. -/
def recovering : State :=
  { busy readTwo .idle with
    bus := { (busy readTwo .idle).bus with recovery := some (.s1, 240500) }, sync := { Sync.reset with mtick := 500 } }

theorem witness_BusServesHead :
    ((busy readTwo .idle).bus.phase = .idle ∧ (busy readTwo .idle).bus.recovery = none ∧
      (busy readTwo .idle).bus.queue = [readTwo]) ∧
    (busy writeOne .writing).bus.phase = .writing ∧ (busy writeOne .writing).bus.stopping = false ∧
      (busy writeOne .writing).bus.queue ≠ [] ∧
      ((busy writeOne .writing).sync.mtick - (busy writeOne .writing).sync.tickAt).toNat < 0x80000000 ∧
    (recovering.bus.recovery = some (.s1, 240500) ∧ (after .writeRecoveryEnd recovering).sync.mtick = 240500) := by decide

theorem witness_ReadCompletes :
    let s := busy readTwo .reading
    s.window.wf = true ∧ s.bus.phase = .reading ∧ s.bus.stopping = false ∧ s.bus.queue = [readTwo] ∧
      readTwo.kind = .read ∧ readTwo.cells = [1] ∧ s.cell 1 = .taken ∧ ([1, 2] : List Byte).length = readTwo.len := by
  decide

theorem witness_AutoloadEnds :
    (loading.window.wf = true ∧ loading.bus.phase = .reading ∧ loading.bus.stopping = false ∧
      loading.bus.queue = [⟨.autoload, .s1, 0, 32, [], []⟩] ∧ goodBytes.length = 32 ∧
      (loading.slot .s1).powerUp = none ∧ loading.audio.wanted ≠ some (.slot .s1) ∧ Held loading []) ∧
    descriptorFailure goodBytes = none ∧ descriptorFailure (goodBytes.set 31 0) = some .checksum ∧
      (goodBytes.set 31 0).length = 32 ∧
    ((loading.slot .s1).state = .loading ∧ (loading.slot .s1).powerUp.bind PowerUp.handOver = none ∧
      ((after (.ackMissing .readAddress) loading).slot .s1).state = .undescribed ∧
      (after (.ackMissing .readAddress) loading).bus.undescribed.get .s1 = .busNack) := by unfold Held; decide

/-- A RELOAD with the job of cell 1 attached, and a POWER job of cell 2 on the power-up kept through it, which just fits. -/
theorem witness_AutoloadEnds_kept :
    let p : PowerUp := ⟨some (2, false), none, true, 0⟩
    let s := { busy ⟨.reload, .s1, 0, 32, [], [1]⟩ .reading with
      slots := State.reset.slots.set .s1 { SlotRec.reset with state := .loading, powerUp := some p }, budget := 5,
      intake := { Intake.reset with cells := (Intake.reset.cells.set 1 .taken).set 2 .taken } }
    s.bus.queue = [⟨.reload, .s1, 0, 32, [], [1]⟩] ∧ (s.slot .s1).powerUp = some p ∧ p.handOver = none ∧
      (s.slot .s1).state = .loading ∧ s.draw + (descriptorOf goodBytes).drawClass ≤ s.budget ∧ Held s [1] ∧
      (s.slot .s1).jobCell = some 2 ∧ Held s [1, 2] := by unfold Held; decide

/-- Slot 1 given back the cabinet while LOST, cooled on air in FADE_IN (assumption 18) and reloaded: its new ratio of 200
makes the target 100 (section 10.7), at which the level stands, or does not. -/
theorem witness_AutoloadEnds_onAir :
    let s (level : Nat) : State := { loading with
      ho := { HandOver.reset with
        phase := .fadeIn, kind := .requested, onAir := some (.slot .s1), target := some (.slot .s1),
        active := some ⟨1, .slot .s1, 3, true, false, false⟩, cancelled := true },
      audio := { Audio.reset with wanted := some (.slot .s1), crosspoint := some (.slot .s1), current := level, target := 60 },
      intake := { Intake.reset with cells := Intake.reset.cells.set 1 .taken } }
    let t (level : Nat) : State := after (.readTransactionEnd goodBytes) (s level)
    ((s 100).bus.queue = [⟨.autoload, .s1, 0, 32, [], []⟩] ∧ ((s 100).slot .s1).powerUp = none ∧ Held (s 100) [1] ∧
      (t 100).ho.phase = .quiet ∧ (t 100).cell 1 = .done) ∧
    0 < (s 99).audio.ramp ∧ (t 99).ho.phase = .fadeIn ∧ (t 99).audio.target = 100 ∧ (t 99).cell 1 = .taken := by
  unfold Held; decide

theorem witness_WriteEnds :
    let s (p : BusPhase) : State := busy writeOne p
    ((s (.polling 9 5)).window.wf = true ∧ (s (.polling 9 5)).bus.stopping = false ∧
      (s (.polling 9 5)).bus.queue = [writeOne] ∧ writeOne.cells = [1] ∧ (s (.polling 9 5)).cell 1 = .taken ∧
      32 ≤ writeOne.addr ∧ (s (.polling 9 5)).bus.phase = .polling 9 5 ∧ (s (.polling 8 5)).bus.phase = .polling 8 5) ∧
    ((s .writing).bus.phase = .writing ∧ 0 < writeOne.len) ∧
    (busy readTwo .reading).bus.phase = .reading ∧ readTwo.kind = .read ∧ 32 ≤ readTwo.addr ∧ readTwo.cells = [1] := by
  decide

/-- A write at byte 31 of an OFF, UNDESCRIBED, powered or COOLING slot, and its word 19. -/
theorem witness_WriteEnds_descriptor :
    let q : BusRequest := ⟨.write, .s1, 31, 1, [0x5A], [1]⟩
    let s (st : SlotState) : State := { busy q (.polling 0 5) with slots := State.reset.slots.set .s1 { SlotRec.reset with state := st } }
    ((s .off).bus.queue = [q] ∧ q.addr < 32 ∧ ((s .off).slot q.slot).state = .off ∧
      (after (.ackPoll true) (s .off)).readMem 51 = 1) ∧
    (SlotState.lost).powered = true ∧ (after (.ackPoll true) (s .lost)).readMem 51 = 2 ∧
      (after (.ackPoll true) (s .fault)).readMem 51 = 2 := by decide

/-- The last counted edge at 1000 and S = 15384: an edge at 1721 lies within three quarters of a line, one at 1722 does
not (R69). -/
theorem witness_HsyncEdgeCounts :
    (after (.hsyncLeadingEdge (.slot .s1) 1721) running).record (.slot .s1) = liveRecord ∧
      ((after (.hsyncLeadingEdge (.slot .s1) 1722) running).record (.slot .s1)).lines = 1 := by decide

/-- Seven agreeing frames seen, the frame of 262 lines that lasts 251913 mticks ends: C = 15384. -/
def seventh : SyncRec := { liveRecord with stableCount := 7, stable := false, lines := 262 }

theorem witness_VsyncEdgeMeasures_run :
    let s := measured seventh (slotIn .starting)
    let r := s.record (.slot .s1)
    let stamp : Stamp := 500 + 251913
    Aside s .s1 ∧ s.raster.mode = .hold ∧ s.raster.cutArm = none ∧
      (∀ e, r.lastEdge = some e → r.p ≤ (stamp - e).toNat * 2) ∧
      (∀ h, r.lastHsync = some h → h = stamp ∨ 0x80000000 ≤ (h - stamp).toNat) ∧ r.reference.isSome = true ∧
      r.p < 241 * 64 ∧ 240 * 64 ≤ r.p ∧ r.condition = .live ∧ r.frameOpen = true ∧ r.reference = some ⟨15384, 262⟩ ∧
      r.stableCount = 7 ∧ r.stable = false ∧ 262 = r.lines ∧
      15384 = ((stamp - r.lastVsync).toNat * 32 + 262) / (2 * 262) ∧
      s.windowLow (.slot .s1) ≤ 15384 ∧ 15384 ≤ s.windowHigh (.slot .s1) ∧
      (Reference.mk 15384 262).agrees 15384 262 = true ∧ (s.slot .s1).state = .starting ∧
      (s.slot .s1).jobCell = none ∧ s.ho.target ≠ some (.slot .s1) := by
  refine ⟨by unfold Aside; decide, by decide, by decide, ?_, ?_, by decide⟩ <;>
  · intro e h
    injection h with h
    subst h
    decide

/-- The same frame's end at a slot within its grace: aside, as the outgoing, and as the target in WAIT_TARGET, where it is
ready, or its P of 15384 is above a monitor window that ends at 15383; and a pulse half of S less 1 after the edge. -/
theorem witness_VsyncEdgeMeasures_recovers :
    let slot1 : SlotRec := { SlotRec.reset with state := .lost, grace := some 3 }
    let s := { measured seventh (slotIn .lost) with slots := State.reset.slots.set .s1 slot1 }
    let out := { leaving .fadeOut .menu [] with sync := s.sync, slots := s.slots }
    let wait (high : Nat) : State := { s with
      ho := { HandOver.reset with phase := .waitTarget, kind := .recovery, target := some (.slot .s1) },
      raster := { Raster.reset with pMax := high } }
    let edge : Instr := .vsyncLeadingEdge (.slot .s1) .horizontal ⟨500 + 251913, 241⟩
    (Aside s .s1 ∧ s.raster.mode = .hold ∧ (after edge s).slot .s1 = { slot1 with state := .running, grace := none }) ∧
    (out.ho.onAir = some (.slot .s1) ∧ (out.slot .s1).state = .lost ∧ out.raster.mode = .pass ∧
      out.raster.crosspoint = some (.slot .s1) ∧ out.raster.releaseOrder = none ∧ ((after edge out).slot .s1).state = .onAir) ∧
    ((wait 15384).raster.pMin ≤ 15384 ∧ (after edge (wait 15384)).ho.phase = .glide) ∧
    ((wait 15383).window.wf = true ∧ Held (wait 15383) [] ∧
      (after edge (wait 15383)).ho.lastFallback = .outOfRange) ∧
    (after (.vsyncLeadingEdge (.slot .s1) .horizontal ⟨500 + 7691, 241⟩) s).sync.records = s.sync.records := by
  unfold Aside Held; decide

/-- A stable RUNNING slot whose frame of 199 lines is invalid, and whose frame of 260 lines disagrees with a run of 262. -/
theorem witness_VsyncEdgeMeasures_disagree :
    let s (n : Nat) : State := measured { liveRecord with lines := n } running
    let stamp : Stamp := 500 + 249990
    (Aside (s 260) .s1 ∧ ((s 260).slot .s1).state ≠ .onAir ∧ ((s 260).record (.slot .s1)).stable = true ∧
      (249990 * 32 + 260) / (2 * 260) = 15384 ∧ (Reference.mk 15384 262).agrees 15384 260 = false) ∧
    (∀ n ∈ [199, 260], ((after (.vsyncLeadingEdge (.slot .s1) .horizontal ⟨stamp, 241⟩) (s n)).slot .s1).state = .lost) ∧
    (after (.vsyncLeadingEdge (.slot .s1) .horizontal ⟨stamp, 240⟩) (s 199)).record (.slot .s1) =
      (s 199).record (.slot .s1) := by unfold Aside; decide

theorem witness_VsyncEdgeMeasures_resume :
    let s := measured { SyncRec.blank .silent with lastHsync := some 1000 } (slotIn .starting)
    let r := s.record (.slot .s1)
    let stamp : Stamp := 97000
    Aside s .s1 ∧ s.raster.mode = .hold ∧ s.raster.cutArm = none ∧ r.lastEdge = none ∧ r.condition = .silent ∧
      r.lastHsync = some 1000 ∧ (stamp - 1000).toNat ≤ 96000 := by unfold Aside; decide

theorem witness_PolarityAndLoss :
    let s := measured { liveRecord with stable := false } running
    running.ho.phase = .quiet ∧ running.ho.target = none ∧ (s.record (.slot .s1)).condition = .live ∧
      (s.record (.slot .s1)).stable = false ∧ s.ho.phase = .quiet ∧ s.ho.target = none ∧
      (running.record (.slot .s1)).condition = .live ∧ running.ho.onAir ≠ some (.slot .s1) ∧
      (running.slot .s1).state = .running ∧ ((slotIn .off).slot .s1).state ≠ .running ∧
      (onAir.ho.phase = .quiet ∧ onAir.ho.target = none ∧ (onAir.record (.slot .s1)).condition = .live ∧
        onAir.ho.onAir = some (.slot .s1) ∧ onAir.raster.mode = .pass) := by decide

theorem witness_CutPutsOnAir :
    let s := measured { liveRecord with lines := 262 } aligned
    let src := Source.slot .s1
    let stamp : Stamp := 500 + 251913
    let o := (s.record src).vsyncEdge (s.windowLow src) (s.windowHigh src) stamp
    s.ho.phase = .align ∧ s.ho.onAir = none ∧ s.ho.target = some src ∧ s.raster.mode = .hold ∧
      s.raster.cutArm = some ⟨src, false, 100⟩ ∧ stamp ≠ 100 ∧ (stamp - 100).toNat < 0x80000000 ∧
      (s.record src).separation (s.windowLow src) < 241 * 64 ∧ o.announced = true ∧
      o.event = none ∧ o.record.stable = true ∧ (s.slot .s1).state = .running ∧ s.copy .s1 = some board ∧
      s.audio.current = 0 ∧ s.audio.crosspoint = none ∧ 0 < s.audio.ramp ∧
      0 < levelFormula s.audio.master (s.audio.ratios.get src) s.audio.floor := by decide

theorem witness_HoldingRasterSteps :
    let s := { State.reset with raster := { Raster.reset with lineBegun := true, lineIndex := 261, lineLength := 1525 } }
    let u := { State.reset with ho := { HandOver.reset with phase := .waitTarget, target := some .menu, frames := 65534 } }
    (s.raster.mode = .hold ∧ s.raster.lineBegun = true ∧ s.raster.lineIndex < s.raster.l ∧ s.ho.phase = .quiet ∧
      s.raster.pendingGlide = none) ∧
    (State.reset.raster.mode = .hold ∧ State.reset.raster.lineBegun = false) ∧
    (u.raster.mode = .hold ∧ u.ho.phase = .waitTarget ∧ u.ho.frames < 65535) ∧
    s.raster.pMin ≤ s.raster.p ∧ s.raster.p ≤ s.raster.pMax ∧ s.raster.pMin ≤ s.raster.pRest ∧
      s.raster.pRest ≤ s.raster.pMax := by decide

/-- A hand-over to slot 1, whose frame starts lie 251916 mticks apart, at a holding frame end `d` mticks after one, with
262 lines of 15384 16ths. -/
def holding (p : Phase) (d : Stamp) (lastP : Nat) : State :=
  { measured { liveRecord with frameTime := 251916, lastVsync := 0, lastP := lastP } running with
    ho := { HandOver.reset with phase := p, target := some (.slot .s1) },
    raster := { Raster.reset with
      p := 15384, lineIndex := 262, lineBegun := true, lineLength := 0, lineStart := d, glide := ⟨256, 8, 4, 10⟩ } }

/-- GLIDE that stands at the target, and one that has 257 16ths to go; ALIGN one line and two lines after the target's frame
start (961 mticks a line), the second below the align limit and at it. -/
theorem witness_HoldingRasterSteps_target :
    let s (d : Stamp) (count : Nat) : State :=
      { holding .align d 15384 with
        raster := { (holding .align d 15384).raster with alignCount := count, alignTarget := some (.slot .s1) } }
    ((holding .glide 0 15384).raster.pendingGlide = none ∧ ((holding .glide 0 15384).record (.slot .s1)).stable = true ∧
      (after .holdingFrameEnd (holding .glide 0 15384)).ho.phase = .align ∧
      (after .holdingFrameEnd (holding .glide 0 15641)).ho.phase = .glide ∧
      (after .holdingFrameEnd (holding .glide 0 15641)).raster.p = 15640) ∧
    (s 0 0).raster.frameEndAt = 0 ∧ (after .holdingFrameEnd (s 961 0)).raster.cutArm = some ⟨.slot .s1, false, 961⟩ ∧
      (after .holdingFrameEnd (s 1923 8)).raster.cutArm = none ∧ (after .holdingFrameEnd (s 1923 8)).raster.l = 260 ∧
      (after .holdingFrameEnd (s 1923 9)).raster.cutArm = some ⟨.slot .s1, true, 1923⟩ ∧
      aligned.raster.cutArm = some ⟨.slot .s1, false, 100⟩ := by decide

theorem witness_ReleaseTimerReleases :
    let s := { onAir with
      ho := { HandOver.reset with
        phase := .release, kind := .requested, onAir := some (.slot .s1), outgoing := some (.slot .s1),
        target := some .menu, releaseTimer := some 0 },
      audio := { onAir.audio with current := 0, target := 0 } }
    s.ho.phase = .release ∧ s.ho.onAir = some (.slot .s1) ∧ s.ho.outgoing = some (.slot .s1) ∧
      s.ho.target = some .menu ∧ (s.record .menu).stable = false ∧ s.raster.mode = .pass ∧ s.audio.current = 0 := by
  decide

/-- An edge of the source on air that ends a frame of 260 lines of 15384 within a stable run: without an order it sets the
pass timing, and under one the generator releases at its stamp. -/
theorem witness_ReleaseTimerReleases_edge :
    let agreeing : SyncRec := { liveRecord with lines := 261 }
    let s (order : Option Source) : State := measured agreeing { leaving .release .menu [] with
      raster := { onAir.raster with releaseOrder := order }, audio := { onAir.audio with current := 0, target := 0 } }
    let src := Source.slot .s1
    let stamp : Stamp := 500 + 250952
    let o := agreeing.vsyncEdge ((s none).windowLow src) ((s none).windowHigh src) stamp
    let edge : Instr := .vsyncLeadingEdge src .horizontal ⟨stamp, 241⟩
    (o.announced = true ∧ o.event = none ∧ agreeing.separation ((s none).windowLow src) < 241 * 64 ∧
      (s none).raster.crosspoint = some src ∧ (after edge (s none)).raster.pass = some ⟨15384, 261⟩) ∧
    ((s (some src)).ho.target = some .menu ∧ (s (some src)).audio.current = 0 ∧
      (after edge (s (some src))).raster.lineStart = stamp ∧ (after edge (s (some src))).raster.l = 261 ∧
      (after edge (s (some src))).ho.phase = .waitTarget) := by decide

theorem witness_LinesSettle :
    (playing.router.inputs.getLsbD 31 = false ∧ playing.router.chordFreeze = false ∧ playing.router.restartHold = false ∧
      playing.router.drivenMap[1]? = some ⟨4, 4, 4, .autofire 30 20⟩ ∧ playing.entryState 1 4 = some ⟨.idle, false⟩) ∧
    (State.reset.router.service = false ∧ State.reset.ho.onAir = none ∧ State.reset.credit.bank < 9999) ∧
    (after (.lineActivation (.input 31)) playing).router.lineActive (.input 31) = true := by decide

theorem witness_EntryPhasesEnd :
    let s := { playing with router := { playing.router with
      entries := [[⟨.pulsing 0, false⟩], [⟨.on 0, false⟩], [⟨.idle, false⟩]] } }
    s.router.drivenMap[0]? = some ⟨0, 0, 0, .pulse 5⟩ ∧ s.entryState 0 (0 : Fin 32).val = some ⟨.pulsing 0, false⟩ ∧
      s.router.drivenMap[1]? = some ⟨4, 4, 4, .autofire 30 20⟩ ∧ s.entryState 1 (4 : Fin 32).val = some ⟨.on 0, false⟩ ∧
      ((after (.autofireOnEnd 1 4) s).entryState 1 (4 : Fin 32).val) = some ⟨.off 20, false⟩ := by decide

theorem witness_ExitChordDetected :
    let s := { playing with router := { playing.router with inputs := 0x00080040 } }
    let u := { s with router := { s.router with chordReturn := true } }
    s.ho.onAir = some (.slot .s1) ∧ s.ho.phase = .quiet ∧ s.router.restartHold = false ∧ s.router.chordLatch = false ∧
      s.router.inputs &&& s.router.chordMask = s.router.chordMask ∧ s.router.chordReturn = false ∧
      u.router.chordReturn = true ∧ u.router.inputs &&& u.router.chordMask = u.router.chordMask ∧ 0 < u.audio.current ∧
      0 < u.audio.ramp := by decide

theorem witness_CoinLineMeasures :
    let s (w : Nat) : State := { State.reset with credit := { Credit.reset with coinA := .measuring w, coinB := .jammed } }
    State.reset.credit.line .a = .idle ∧
    (∀ w ∈ [20, 120], (s w).credit.line .a = .measuring w ∧ (s w).credit.setup.minWidth ≤ w ∧
      w ≤ (s w).credit.setup.maxWidth ∧ (s w).credit.setup.value .a = 1 ∧ (s w).ho.onAir = none ∧
      (s w).credit.bank < 9999) ∧
    (s 19).credit.line .a = .measuring 19 ∧ 19 < (s 19).credit.setup.minWidth ∧ (s 121).credit.setup.maxWidth < 121 ∧
      (after (.coinJam .a) (s 121)).credit.jam = true ∧
      (s 19).credit.line .b = .jammed := by decide

theorem witness_PulsesRun :
    let s := { onAir with credit := { Credit.reset with pending := Credit.reset.pending.set .s1 1, meterPending := 1 } }
    let u := { s with credit := { s.credit with
      pulses := (s.credit.pulses.set .s1 (some (.on 0 12))).set .s2 (some (.off 0)), meter := some (.on 0 60) } }
    (0 < s.credit.pending.get .s1 ∧ s.ho.onAir = some (.slot .s1) ∧ s.credit.pulses.get .s1 = none ∧
      s.copy .s1 = some board ∧ 0 < s.credit.meterPending ∧ s.credit.meter = none) ∧
    u.credit.pulses.get .s1 = some (.on 0 12) ∧ u.credit.pulses.get .s2 = some (.off 0) ∧
      u.credit.meter = some (.on 0 60) ∧ (after .meterPulseOnEnd u).credit.meter = some (.off 60) := by decide

theorem witness_RampStepMoves :
    let s := { onAir with audio := { onAir.audio with current := 98 } }
    let out := { leaving .fadeOut .menu [] with audio := { onAir.audio with current := 4, target := 0 } }
    let into := { s with
      ho := { onAir.ho with phase := .fadeIn, active := some ⟨1, .slot .s1, 3, true, false, false⟩ },
      intake := { Intake.reset with cells := Intake.reset.cells.set 1 .taken } }
    (s.ho.phase = .quiet ∧ s.audio.crosspoint = s.audio.wanted ∧ s.audio.current ≠ s.audio.target ∧ 0 < s.audio.ramp ∧
      (after .rampStep s).audio.current = 100) ∧
    (out.ho.phase = .fadeOut ∧ out.audio.crosspoint = out.audio.wanted ∧ out.audio.target = 0 ∧
      max out.audio.target (out.audio.current - out.audio.ramp) = 0 ∧ out.raster.mode = .pass) ∧
    into.ho.phase = .fadeIn ∧ min into.audio.target (into.audio.current + into.audio.ramp) = into.audio.target ∧
      into.ho.onAir = some (.slot .s1) ∧ into.ho.waiting = none ∧ (into.slot .s1).state ≠ .lost ∧
      into.window.wf = true ∧ Held into [1] ∧ (after .rampStep into).cell 1 = .done := by unfold Held; decide

/-! ### Points of the rules that a test shows best -/

/-- R49: after a STOP at mtick 1 of an ms the first poll is due at the second tick from there; WRITE_TIMEOUT is the 10th. -/
theorem test_poll_schedule :
    let s := { busy writeOne .writing with sync := { Sync.reset with mtick := 1 } }
    (after .writeDataStop s).bus.phase = .polling 0 48000 ∧
      (after .writeDataStop { s with sync := Sync.reset }).bus.phase = .polling 0 24000 ∧
      (after (.ackPoll false) (after .writeDataStop s)).bus.phase = .polling 1 72000 ∧
      (after .writeTimeout (after .writeDataStop s)).bus.phase = .polling 0 48000 := by decide

/-- R70: a vertical-input edge stamped 300 mticks after a composite pulse of source 0 was taken first: the pulse is merged. -/
theorem test_merge_either_way :
    let r := { liveRecord with lastVsync := 5300, lastEdge := some 5300 }
    let s := { State.reset with sync := { Sync.reset with records := Sync.reset.records.set .menu r, verticalEdge := some 5300 } }
    (after (.vsyncLeadingEdge .menu .horizontal ⟨5000, 1000⟩) s).record .menu = s.record .menu := by decide

/-- R70, R65: a slot SILENT for all but 300 mticks of 2^32 is not in the vertical interval of its last edge. -/
theorem test_merge_forward_only :
    let s := measured { liveRecord with condition := .silent, lastEdge := some 5300 } running
    ((after (.vsyncLeadingEdge (.slot .s1) .horizontal ⟨5000, 1000⟩) s).record (.slot .s1)).lastEdge = some 5000 := by decide

/-- R50: the interval of a STOP at mtick 500 is over at 240500 and not before. -/
theorem test_recovery_interval :
    let s (m : Stamp) : State := { recovering with sync := { Sync.reset with mtick := m } }
    (s 240499).dueRecovery = [] ∧ (s 240500).dueRecovery = [.writeRecoveryEnd] ∧
      (after .busRequestStart (s 240499)).bus.phase = .idle ∧
      (after (.ackMissing (.dataByte 0)) { busy writeOne .writing with sync := { Sync.reset with mtick := 500 } }).bus.recovery =
        some (.s1, 240500) := by decide

/-- R71: an hsync edge with the stamp of the vsync edge belongs to the frame that ended. -/
theorem test_line_by_stamp :
    let s := measured { liveRecord with lastVsync := 5000 } running
    ((after (.hsyncLeadingEdge (.slot .s1) 5000) s).record (.slot .s1)).lines = 0 ∧
      ((after (.hsyncLeadingEdge (.slot .s1) 5001) s).record (.slot .s1)).lines = 1 := by decide

/-- R68: an input that stands high for most of each ms keeps the polarity it has changed to. -/
theorem test_steady_polarity :
    let s := measured { liveRecord with horizontalPositive := true } running
    (confirmsChange true (s.pins.highHorizontal.get (.slot .s1))) = true ∧
      confirmsChange false ((after (.polarityChange (.slot .s1) .horizontal) s).pins.highHorizontal.get (.slot .s1)) =
        false := by decide

/-- R99: values set in PASS replace values still pending. -/
theorem test_glide_replaces_pending :
    let s := { posted [7, 0, 1, 100, 8, 4, 12] onAir with
      raster := { onAir.raster with pendingGlide := some ⟨1, 1, 1, 10⟩ } }
    (after .setupGlide s).raster.pendingGlide = none ∧ (after .setupGlide s).raster.glide = ⟨100, 8, 4, 12⟩ := by decide

/-- R142: input 4 released and input 5 pressed at one scan, both on pin 4: the pin stands until the scan computes it, and
stays active. -/
theorem test_pins_computed_last :
    let s := { playing with
      router := { playing.router with inputs := 0x00000010, entries := [[⟨.idle, false⟩], [⟨.on 9, false⟩], [⟨.idle, false⟩]],
                                      activePins := 0x10 }, scan := 3 }
    let t := after (.lineRelease (.input 4)) s
    let u := after (.lineActivation (.input 5)) t
    t.router.activePins = 0x10 ∧ u.router.activePins = 0x10 ∧
      ({ u with scan := 6 }.idle).router.activePins = 0x10 ∧
      (after (.lineRelease (.input 4)) { s with scan := 0 }).router.activePins = 0 := by decide

/-- R142, R157: a release of a mask input leaves the freeze while the scan's other lines are settling. -/
theorem test_release_within_scan :
    let s := { playing with
      router := { playing.router with inputs := 0x00000040, chordFreeze := true, chordLatch := true }, scan := 3 }
    (after (.lineRelease (.input 6)) s).router.chordFreeze = true ∧
      (after (.lineRelease (.input 6)) { s with scan := 0 }).router.chordFreeze = false := by decide

end Sys2Proof.Tests
end

section
namespace Sys2Proof.Machine

/-! ### The registers' reserved bits and the intake list, operation by operation (R3, R6, R8, R10) -/

/-- The part of the state that the host shares: the memory words and the intake. -/
def State.shared (s : State) : Window × Intake := (s.window, s.intake)

/-- What stays sound reads the memory words and the intake alone. -/
theorem WindowSound.congr {s t : State} (h : WindowSound s) (e : t.shared = s.shared) : WindowSound t := by
  have hw : t.window = s.window := congrArg Prod.fst e
  have hi : t.intake = s.intake := congrArg Prod.snd e
  exact ⟨hw ▸ h.memory, hi ▸ h.notice, hi ▸ h.mask, hi ▸ h.listed, fun c => by
    simpa only [State.cell, hi] using h.posted c⟩

theorem WindowSound.writeMem {s : State} (h : WindowSound s) {addr : Nat} {vs : List Word}
    (hb : addr + vs.length ≤ Config.registerBase) : WindowSound (s.writeMem addr vs) where
  memory := Window.writeAll_wf hb h.memory
  notice := h.notice
  mask := h.mask
  listed := h.listed
  posted := h.posted

/-- A cell that is not POSTED goes to a state other than POSTED. -/
theorem WindowSound.setCell {s : State} (h : WindowSound s) {c : CellNo} {st : CellState} (hc : s.cell c ≠ .posted)
    (hst : st ≠ .posted) : WindowSound (s.setCell c st) where
  memory := h.memory
  notice := h.notice
  mask := h.mask
  listed := h.listed
  posted d := by
    rw [cell_setCell]
    by_cases hd : d = c
    · simpa [hd, hst] using fun hm => hc ((h.posted c).1 hm)
    · simpa [hd] using h.posted d

theorem WindowSound.complete {s : State} (h : WindowSound s) (c : CellNo) (r : Result) (d : Nat) (l : List Nat) :
    WindowSound (s.complete c r d l) := by
  unfold State.complete
  split
  case isTrue hc =>
    have hb := cellBase_bound c
    refine (h.writeMem ?_).setCell ?_ (by decide)
    · simp only [resultWords_length, Config.registerBase]; omega
    · exact fun hp => absurd (hc.symm.trans hp) (by decide)
  case isFalse => exact h

theorem WindowSound.completeAll {s : State} (h : WindowSound s) (cells : List CellNo) (r : Result) (d : Nat)
    (l : List Nat) : WindowSound (s.completeAll cells r d l) := by
  induction cells generalizing s with
  | nil => exact h
  | cons c cs ih => exact ih (h.complete c r d l)

/-- No notice bit that the part sets is a reserved one (R4). -/
theorem noticeBit_unreserved {n : Nat} (hn : n ≤ 12) : (1#16 <<< n) &&& 0xE000 = 0 := by
  revert n; decide

theorem WindowSound.setNotice {s : State} (h : WindowSound s) {n : Nat} (hn : n ≤ 12) : WindowSound (s.setNotice n) where
  memory := h.memory
  notice := by
    have hs := h.notice
    rw [State.setNotice_intake, BitVec.and_or_distrib_right, hs, noticeBit_unreserved hn]
    rfl
  mask := h.mask
  listed := h.listed
  posted := h.posted

theorem WindowSound.intakeFault {s : State} (h : WindowSound s) (c : CellNo) (r : IntakeFault) :
    WindowSound (s.intakeFault c r) :=
  have h' := h.setNotice (n := 11) (by decide)
  ⟨h'.memory, h'.notice, h'.mask, h'.listed, h'.posted⟩

/-- The head of the intake list leaves it as its cell becomes TAKEN (R8). -/
theorem WindowSound.take {s : State} (h : WindowSound s) {c : CellNo} (hc : s.intake.list.head? = some c) :
    WindowSound (s.take c) := by
  obtain ⟨cs, hl⟩ : ∃ cs, s.intake.list = c :: cs := by
    cases hl : s.intake.list with
    | nil => simp [hl] at hc
    | cons d ds => simp only [hl, List.head?_cons, Option.some.injEq] at hc; exact ⟨ds, by rw [hc]⟩
  have hn := h.listed
  rw [hl, List.nodup_cons] at hn
  refine ⟨h.memory, h.notice, h.mask, by simpa [hl] using hn.2, fun d => ?_⟩
  have hp := h.posted d
  have hcell : (s.take c).cell d = if d = c then .taken else s.cell d := cell_setCell s c d .taken
  rw [hcell]
  by_cases hd : d = c
  · simpa [hl, hd] using hn.1
  · simpa [hl, hd] using hp

/-- A job's take and what its owner does with it. -/
theorem WindowSound.takeIf {s : State} (h : WindowSound s) {due : Job → Bool} {act : Job → State → State}
    (hact : ∀ j u, WindowSound u → WindowSound (act j u)) : WindowSound (s.takeIf due act) := by
  unfold State.takeIf
  split
  case h_1 => exact h
  case h_2 j hj =>
    split
    · exact hact j _ (h.take (headJob_some hj).2.1)
    · exact h

/-! ### The audio unit, the credit unit and the measurement records -/

theorem WindowSound.retarget {s : State} (h : WindowSound s) : WindowSound s.retarget := h.congr (by rfl)

theorem WindowSound.crossover {s : State} (h : WindowSound s) : WindowSound s.crossover := by
  unfold State.crossover
  split
  · exact (h.congr (by rfl)).retarget
  · exact h

theorem WindowSound.recomputeAudio {s : State} (h : WindowSound s) : WindowSound s.recomputeAudio :=
  h.retarget.crossover

theorem WindowSound.setWanted {s : State} (h : WindowSound s) (src : Option Source) : WindowSound (s.setWanted src) :=
  (h.congr (by rfl)).recomputeAudio

theorem WindowSound.muteAndLeave {s : State} (h : WindowSound s) : WindowSound s.muteAndLeave := (h.congr (by rfl)).recomputeAudio

theorem WindowSound.setRatio {s : State} (h : WindowSound s) (src : Source) (r : Nat) : WindowSound (s.setRatio src r) := by
  unfold State.setRatio
  extract_lets
  split
  · exact (h.congr (by rfl)).recomputeAudio
  · exact h.congr (by rfl)

theorem WindowSound.rampOnce {s : State} (h : WindowSound s) : WindowSound s.rampOnce := (h.congr (by rfl)).crossover

theorem WindowSound.routeUnit {s : State} (h : WindowSound s) : WindowSound s.routeUnit := by
  unfold State.routeUnit
  split <;> exact h.congr (by rfl)

theorem WindowSound.coinUnits {s : State} (n : Nat) (h : WindowSound s) : WindowSound (s.coinUnits n) := by
  induction n generalizing s with
  | zero => exact h
  | succ n ih => exact ih (h.congr (by rfl)).routeUnit

theorem WindowSound.sampleCoin {s : State} (h : WindowSound s) (l : CoinLine) (b : Bool) :
    WindowSound (s.sampleCoin l b) := by cases l <;> exact h.congr (by rfl)

theorem WindowSound.requestNewRun {s : State} (h : WindowSound s) (i : Slot) : WindowSound (s.requestNewRun i) := by
  unfold State.requestNewRun
  extract_lets
  split <;> exact h.congr (by rfl)

/-! ### The slot manager -/

theorem WindowSound.evictAll {s : State} (h : WindowSound s) (vs : List Slot) : WindowSound (s.evictAll vs) := by
  induction vs generalizing s with
  | nil => exact h
  | cons v vs ih => exact ih (h.congr (by rfl) : WindowSound (s.toCooling v))

theorem WindowSound.powerSlot {s : State} (h : WindowSound s) (i : Slot) (vs : List Slot) :
    WindowSound (s.powerSlot i vs) := (h.evictAll vs).congr (by rfl)

theorem WindowSound.reloadRestarts {s : State} (h : WindowSound s) (i : Slot) : WindowSound (s.reloadRestarts i) := by
  unfold State.reloadRestarts
  split
  · exact h.congr (by rfl)
  · exact h

theorem WindowSound.request {s : State} (h : WindowSound s) (i : Slot) (q : Requester) :
    WindowSound (s.request i q).2 := by
  have hj : WindowSound (s.modSlot i (SlotRec.join q)) := h.congr (by rfl)
  unfold State.request
  split
  · split
    · exact h
    · exact (hj.reloadRestarts i).powerSlot i _
  · exact hj.reloadRestarts i
  · split
    · exact hj
    · exact h
  any_goals exact hj.reloadRestarts i
  any_goals exact h.reloadRestarts i
  all_goals exact h

theorem WindowSound.withdrawHandOver {s : State} (h : WindowSound s) (i : Slot) : WindowSound (s.withdrawHandOver i) := by
  unfold State.withdrawHandOver
  split
  · exact h.congr (by rfl)
  · exact h

theorem WindowSound.answerJob {s : State} (h : WindowSound s) (i : Slot) (p : Option PowerUp) (r : Result) (d : Nat)
    (mask : Word) : WindowSound (s.answerJob i p r d mask) := by
  unfold State.answerJob
  split
  · exact h.complete ..
  · exact h

theorem WindowSound.reachOff {s : State} (h : WindowSound s) (i : Slot) : WindowSound (s.reachOff i) := by
  unfold State.reachOff
  split <;> exact h.congr (by rfl)

theorem WindowSound.descriptorEffect {s : State} (h : WindowSound s) (i : Slot) :
    WindowSound (s.descriptorEffect i).1 := by
  unfold State.descriptorEffect
  split <;> exact h.congr (by rfl)

theorem WindowSound.enterLost {s : State} (h : WindowSound s) (i : Slot) : WindowSound (s.enterLost i) := by
  unfold State.enterLost
  split <;> exact h.congr (by rfl)

theorem WindowSound.slotStable {s : State} (h : WindowSound s) (i : Slot) : WindowSound (s.slotStable i) := by
  unfold State.slotStable
  split
  · exact (h.congr (by rfl)).answerJob ..
  · exact h.congr (by rfl)
  · exact h

theorem WindowSound.restartDecision {s : State} (h : WindowSound s) (i : Slot) : WindowSound (s.restartDecision i) :=
  h.congr (by rfl)

theorem WindowSound.releaseSlot {s : State} (h : WindowSound s) (i : Slot) : WindowSound (s.releaseSlot i) := by
  unfold State.releaseSlot
  split <;> exact h.congr (by rfl)

theorem WindowSound.cutSlot {s : State} (h : WindowSound s) (i : Slot) : WindowSound (s.cutSlot i) := by
  unfold State.cutSlot
  split <;> exact h.congr (by rfl)

/-! ### The hand-over controller -/

theorem WindowSound.setPhase {s : State} (h : WindowSound s) (p : Phase) : WindowSound (s.setPhase p) := by
  unfold State.setPhase
  split <;> exact h.congr (by rfl)

theorem WindowSound.completeActive {s : State} (h : WindowSound s) (r : Result) (d : Nat)
    (data : SwitchJob → List Nat) : WindowSound (s.completeActive r d data) := by
  unfold State.completeActive
  split
  · exact (h.complete ..).congr (by rfl)
  · exact h

theorem WindowSound.completeActiveOk {s : State} (h : WindowSound s) : WindowSound s.completeActiveOk := by
  unfold State.completeActiveOk
  split <;> exact h.completeActive ..

theorem WindowSound.judgeMenu {s : State} (h : WindowSound s) : WindowSound s.judgeMenu := by
  unfold State.judgeMenu
  split
  · exact h.setPhase _
  · exact h

theorem WindowSound.withdrawTarget {s : State} (h : WindowSound s) : WindowSound s.withdrawTarget := by
  unfold State.withdrawTarget
  split
  · exact h.withdrawHandOver _
  · exact h

theorem WindowSound.fallback {s : State} (h : WindowSound s) (reason : FailReason) : WindowSound (s.fallback reason) :=
  ((h.congr (by rfl)).setPhase _).judgeMenu

theorem WindowSound.failToFallback {s : State} (h : WindowSound s) (reason : FailReason) :
    WindowSound (s.failToFallback reason) := (h.completeActive ..).withdrawTarget.fallback reason

theorem WindowSound.judge {s : State} (h : WindowSound s) : WindowSound s.judge := by
  unfold State.judge
  split
  case isTrue =>
    split
    · exact h.judgeMenu
    · split
      · split
        · exact h.setPhase _
        · exact h.failToFallback _
      · exact h
    · exact h
  case isFalse => exact h

theorem WindowSound.releaseOutgoing {s : State} (h : WindowSound s) : WindowSound s.releaseOutgoing := by
  unfold State.releaseOutgoing
  split
  · exact h.releaseSlot _
  · exact h

theorem WindowSound.releaseHandled {s : State} (h : WindowSound s) : WindowSound s.releaseHandled :=
  (((h.congr (by rfl)).releaseOutgoing.setPhase _).setWanted _).judge

theorem WindowSound.outgoingFailure {s : State} (h : WindowSound s) : WindowSound s.outgoingFailure :=
  (h.congr (by rfl)).releaseHandled

theorem WindowSound.lossStart {s : State} (h : WindowSound s) : WindowSound s.lossStart :=
  ((h.congr (by rfl)).setPhase _).muteAndLeave

theorem WindowSound.recordFeed {s : State} (h : WindowSound s) (src : Source) : WindowSound (s.recordFeed src) := by
  cases src <;> exact h.congr (by rfl)

theorem WindowSound.startRecovery {s : State} (h : WindowSound s) (src : Source) : WindowSound (s.startRecovery src) :=
  ((h.recordFeed src).lossStart.congr (by rfl)).judge

theorem WindowSound.lossFallback {s : State} (h : WindowSound s) (i : Slot) (reason : FailReason) :
    WindowSound (s.lossFallback i reason) :=
  have hl : WindowSound (s.leaveAir i) := h.congr (by rfl)
  (hl.lossStart.congr (by rfl)).judge

theorem WindowSound.toQuiet {s : State} (h : WindowSound s) : WindowSound s.toQuiet := (h.congr (by rfl)).setPhase _

theorem WindowSound.returnToQuiet {s : State} (h : WindowSound s) : WindowSound s.returnToQuiet := by
  unfold State.returnToQuiet
  split
  · exact h.toQuiet.startRecovery _
  · exact h.toQuiet

theorem WindowSound.fadeInEnd {s : State} (h : WindowSound s) : WindowSound s.fadeInEnd :=
  h.completeActiveOk.returnToQuiet

theorem WindowSound.enterRelease {s : State} (h : WindowSound s) : WindowSound s.enterRelease :=
  (h.setPhase .release).congr (by rfl)

theorem WindowSound.levelAnnounced {s : State} (h : WindowSound s) : WindowSound s.levelAnnounced := by
  unfold State.levelAnnounced
  split
  case isTrue =>
    split
    · split
      · exact h.enterRelease
      · exact h
    · exact h.fadeInEnd
    · exact h
  case isFalse => exact h

theorem WindowSound.enterFadeOut {s : State} (h : WindowSound s) (src : Source) : WindowSound (s.enterFadeOut src) :=
  (((h.setPhase _).recordFeed src).congr (by rfl)).recomputeAudio.levelAnnounced

theorem WindowSound.reopenFeed {s : State} (h : WindowSound s) (src : Source) : WindowSound (s.reopenFeed src) := by
  unfold State.reopenFeed
  split
  · split <;> exact h.congr (by rfl)
  · exact h

theorem WindowSound.cancel {s : State} (h : WindowSound s) : WindowSound s.cancel := by
  unfold State.cancel
  split
  · exact h
  · exact (((h.withdrawTarget.congr (by rfl)).setPhase _).reopenFeed _).recomputeAudio.levelAnnounced

theorem WindowSound.targetFailure {s : State} (h : WindowSound s) (reason : FailReason) :
    WindowSound (s.targetFailure reason) := by
  unfold State.targetFailure
  split
  · exact (h.completeActive ..).cancel
  · split
    · exact h.failToFallback reason
    · exact h

theorem WindowSound.pendingFailed {s : State} (h : WindowSound s) (r : Result) (d : Nat) (reason : FailReason) :
    WindowSound (s.pendingFailed r d reason) := (h.completeActive ..).targetFailure reason

theorem WindowSound.prepareSlot {s : State} (h : WindowSound s) (i : Slot) (j : SwitchJob) :
    WindowSound (s.prepareSlot i j).2 := by
  unfold State.prepareSlot
  split
  any_goals exact h
  any_goals exact h.request ..
  all_goals split <;> exact h

theorem WindowSound.prepare {s : State} (h : WindowSound s) (j : SwitchJob) : WindowSound (s.prepare j).2 := by
  unfold State.prepare
  split
  · split <;> exact h
  · split
    · exact h
    · exact h.prepareSlot ..

theorem WindowSound.applyPin {s : State} (h : WindowSound s) (j : SwitchJob) : WindowSound (s.applyPin j) := by
  unfold State.applyPin
  split
  · split <;> exact h.congr (by rfl)
  · exact h

theorem WindowSound.startHandOver {s : State} (h : WindowSound s) (j : SwitchJob) (cold : Bool) (mask : Word) :
    WindowSound (s.startHandOver j cold mask) := by
  unfold State.startHandOver
  extract_lets
  split
  · exact WindowSound.enterFadeOut (h.congr (by rfl)) _
  · exact ((h.congr (by rfl)).setPhase _).judge

theorem WindowSound.retargetTo {s : State} (h : WindowSound s) (target : Source) : WindowSound (s.retargetTo target) := by
  unfold State.retargetTo
  extract_lets
  split
  · exact h.withdrawTarget.congr (by rfl)
  · exact ((h.withdrawTarget.congr (by rfl)).setPhase _).judge

theorem WindowSound.replaceActive {s : State} (h : WindowSound s) (j : SwitchJob) (cold : Bool) (mask : Word) :
    WindowSound (s.replaceActive j cold mask) := by
  have ht : WindowSound ((s.completeActive .superseded 0 s.switchData).adopt j cold mask) :=
    (h.completeActive ..).congr (by rfl)
  unfold State.replaceActive
  extract_lets
  split
  · exact ht.cancel
  · split
    · exact ht
    · exact ht.retargetTo _

theorem WindowSound.makeWait {s : State} (h : WindowSound s) (j : SwitchJob) : WindowSound (s.makeWait j) := by
  unfold State.makeWait
  split
  · exact (h.complete ..).congr (by rfl)
  · exact h.congr (by rfl)

theorem WindowSound.completeAtChecks {s : State} (h : WindowSound s) (j : SwitchJob) (v : Verdict) :
    WindowSound (s.completeAtChecks j v) := by
  cases v with
  | refused r d => exact h.complete ..
  | present => exact (h.applyPin j).complete ..
  | passed cold mask => exact h

theorem WindowSound.switchInQuiet {s : State} (h : WindowSound s) (j : SwitchJob) : WindowSound (s.switchInQuiet j) := by
  have hv := (h.setPhase .prepare).prepare j
  unfold State.switchInQuiet
  extract_lets
  split
  · exact (hv.applyPin j).startHandOver ..
  all_goals exact (hv.completeAtChecks ..).setPhase _

theorem WindowSound.switchInFlight {s : State} (h : WindowSound s) (j : SwitchJob) : WindowSound (s.switchInFlight j) := by
  have hv := h.prepare j
  unfold State.switchInFlight
  extract_lets
  split
  · exact (hv.applyPin j).replaceActive ..
  all_goals exact hv.completeAtChecks ..

theorem WindowSound.takeSwitch {s : State} (h : WindowSound s) (j : SwitchJob) : WindowSound (s.takeSwitch j) := by
  unfold State.takeSwitch
  split
  any_goals exact h.switchInQuiet j
  any_goals exact h.switchInFlight j
  exact h.makeWait j

theorem WindowSound.takeUpWaiting {s : State} (h : WindowSound s) : WindowSound s.takeUpWaiting := by
  unfold State.takeUpWaiting
  split
  · exact (h.congr (by rfl)).takeSwitch _
  · exact h

theorem WindowSound.levelReached {s : State} (h : WindowSound s) : WindowSound s.levelReached := by
  unfold State.levelReached
  split
  · exact h.levelAnnounced.takeUpWaiting
  · exact h.levelAnnounced

theorem WindowSound.ratioAnnounced {s : State} (h : WindowSound s) (src : Source) : WindowSound (s.ratioAnnounced src) := by
  unfold State.ratioAnnounced
  split
  · exact h.levelReached
  · exact h

theorem WindowSound.failInFadeIn {s : State} (h : WindowSound s) {handle : State → State}
    (hh : ∀ u, WindowSound u → WindowSound (handle u)) : WindowSound (s.failInFadeIn handle) :=
  (hh _ h.completeActiveOk.toQuiet).takeUpWaiting

theorem WindowSound.controllerLoses {s : State} (h : WindowSound s) (src : Source) (noSync : Bool) :
    WindowSound (s.controllerLoses src noSync) := by
  unfold State.controllerLoses
  split
  any_goals split
  any_goals exact h
  any_goals exact h.startRecovery src
  any_goals exact h.outgoingFailure
  any_goals exact (h.setPhase _).judge
  exact h.failInFadeIn fun u hu => hu.startRecovery src

theorem WindowSound.controllerSlotFails {s : State} (h : WindowSound s) (i : Slot) (reason : FailReason) :
    WindowSound (s.controllerSlotFails i reason) := by
  unfold State.controllerSlotFails
  split
  any_goals split
  any_goals exact h
  any_goals exact h.lossFallback i reason
  any_goals exact h.outgoingFailure
  any_goals exact h.targetFailure reason
  any_goals exact h.failInFadeIn fun u hu => hu.lossFallback i reason
  all_goals split
  any_goals exact h
  all_goals exact h.targetFailure reason

theorem WindowSound.controllerExpiry {s : State} (h : WindowSound s) (i : Slot) (reason : FailReason) :
    WindowSound (s.controllerExpiry i reason) := by
  unfold State.controllerExpiry
  split
  any_goals split
  any_goals exact h
  any_goals exact h.outgoingFailure
  any_goals exact h.targetFailure reason
  all_goals split
  any_goals exact h
  all_goals exact h.targetFailure reason

theorem WindowSound.onFinding {s : State} (h : WindowSound s) (f : Finding) : WindowSound (s.onFinding f) := by
  unfold State.onFinding
  split
  any_goals split
  any_goals exact h
  · exact h.setPhase _
  · exact h.congr (by rfl)
  · exact h.targetFailure _

theorem WindowSound.countFrame {s : State} (h : WindowSound s) : WindowSound s.countFrame := by
  unfold State.countFrame
  split <;> exact h.congr (by rfl)

theorem WindowSound.cutCredit {s : State} (h : WindowSound s) (src : Source) : WindowSound (s.cutCredit src) := by
  cases src <;> exact h.congr (by rfl)

theorem WindowSound.cutSource {s : State} (h : WindowSound s) (src : Source) : WindowSound (s.cutSource src) := by
  cases src with
  | menu => exact h
  | slot i => exact h.cutSlot i

theorem WindowSound.cutHandled {s : State} (h : WindowSound s) (src : Source) (rough : Bool) :
    WindowSound (s.cutHandled src rough) :=
  have ht : WindowSound { s with ho.onAir := some src, ho.rough := rough, ho.cancelled := false } := h.congr (by rfl)
  ((((ht.cutSource src).cutCredit src).congr (by rfl)).setPhase _).setWanted _ |>.levelReached

theorem WindowSound.chooseAnew {s : State} (h : WindowSound s) : WindowSound s.chooseAnew := by
  unfold State.chooseAnew
  split
  · split
    · refine (WindowSound.setPhase ?_ _).judge
      split
      · exact h.congr (by rfl)
      · exact h.withdrawTarget.congr (by rfl)
    · exact h.withdrawTarget.fallback _
  · exact h.withdrawTarget.fallback _

theorem WindowSound.restartHandOver {s : State} (h : WindowSound s) : WindowSound s.restartHandOver := by
  have ht : WindowSound { s with ho.active := none, ho.waiting := none } := h.congr (by rfl)
  unfold State.restartHandOver
  extract_lets
  split
  any_goals exact ht.cancel
  any_goals exact ht.withdrawTarget.fallback _
  exact ht

/-! ### The host's writes, the soft restart and the page writer -/

/-- Postings of FREE cells, each once (R6). -/
theorem WindowSound.postCells {s : State} (h : WindowSound s) {cs : List CellNo} (hn : cs.Nodup)
    (hf : ∀ c, c ∈ cs → s.cell c = .free) : WindowSound (cs.foldl State.postCell s) := by
  induction cs generalizing s with
  | nil => exact h
  | cons c cs ih =>
    rw [List.nodup_cons] at hn
    have hcell (d : CellNo) : (s.postCell c).cell d = if d = c then .posted else s.cell d := cell_setCell s c d .posted
    have hc : c ∉ s.intake.list := fun hm => absurd ((h.posted c).1 hm) (by simp [hf c])
    refine ih ⟨h.memory, h.notice, h.mask, ?_, fun d => ?_⟩ hn.2 fun d hd => ?_
    · exact List.nodup_append.2 ⟨h.listed, by simp, fun a ha b hb e =>
        hc (by rw [← List.mem_singleton.1 hb, ← e]; exact ha)⟩
    · have hp := h.posted d
      rw [hcell]
      show d ∈ s.intake.list ++ [c] ↔ _
      by_cases hd : d = c <;> simp [hd, hp]
    · have hdc : d ≠ c := fun e => hn.1 (e ▸ hd)
      rw [hcell, if_neg hdc]
      exact hf d (List.mem_cons_of_mem _ hd)

theorem allCells_nodup : allCells.Nodup := by decide

theorem WindowSound.writePost {s : State} (h : WindowSound s) (v : Word) : WindowSound (s.writePost v) := by
  have hp : WindowSound (((cellsIn v).filter s.postable).foldl State.postCell s) :=
    h.postCells ((allCells_nodup.filter _).filter _) fun c hc => by
      simp only [List.mem_filter, State.postable, Bool.and_eq_true, decide_eq_true_eq] at hc
      exact hc.2.1
  unfold State.writePost
  generalize ((cellsIn v).filter fun c => !s.postable c) = faults
  generalize ((cellsIn v).filter s.postable).foldl State.postCell s = t at hp ⊢
  induction faults generalizing t with
  | nil => exact hp
  | cons c cs ih => exact ih _ (hp.intakeFault c _)

theorem WindowSound.returnCell {s : State} (h : WindowSound s) (c : CellNo) : WindowSound (s.returnCell c) := by
  unfold State.returnCell
  split
  case isTrue hc => exact h.setCell (fun hp => absurd (hc.symm.trans hp) (by decide)) (by decide)
  case isFalse => exact h

theorem WindowSound.writeDone {s : State} (h : WindowSound s) (v : Word) : WindowSound (s.writeDone v) := by
  unfold State.writeDone
  induction cellsIn v generalizing s with
  | nil => exact h
  | cons c cs ih => exact ih (h.returnCell c)

theorem WindowSound.writeNotice {s : State} (h : WindowSound s) (v : Word) : WindowSound (s.writeNotice v) where
  memory := h.memory
  notice := by
    have hs := h.notice
    rw [State.writeNotice_intake, BitVec.and_assoc, BitVec.and_comm (~~~ v), ← BitVec.and_assoc, hs]
    exact BitVec.zero_and
  mask := h.mask
  listed := h.listed
  posted := h.posted

theorem WindowSound.writeMask {s : State} (h : WindowSound s) (v : Word) : WindowSound (s.writeMask v) where
  memory := h.memory
  notice := h.notice
  mask := by rw [State.writeMask_intake, BitVec.and_assoc]; exact BitVec.and_zero
  listed := h.listed
  posted := h.posted

/-- The intake that a soft restart leaves (R16). -/
theorem WindowSound.restart {s : State} (h : WindowSound s) :
    WindowSound { s with intake := s.intake.restart, router := s.router.restart } where
  memory := h.memory
  notice := BitVec.zero_and
  mask := BitVec.zero_and
  listed := List.nodup_nil
  posted c := by simp [State.cell, Intake.restart]

theorem WindowSound.dropPowerJobs {s : State} (h : WindowSound s) : WindowSound s.dropPowerJobs := by
  unfold State.dropPowerJobs
  induction Slot.all generalizing s with
  | nil => exact h
  | cons i is ih => exact ih (h.congr (by rfl) : WindowSound (s.withdrawJob i))

theorem WindowSound.writeEffect {s : State} (h : WindowSound s) (q : BusRequest) : WindowSound (s.writeEffect q).1 := by
  unfold State.writeEffect
  split
  · exact h.descriptorEffect _
  · exact h

theorem WindowSound.stopWrite {s : State} (h : WindowSound s) (q : BusRequest) : WindowSound (s.stopWrite q).1 :=
  WindowSound.writeEffect (h.congr (by rfl)) q

theorem WindowSound.restartBus {s : State} (h : WindowSound s) : WindowSound s.restartBus := by
  unfold State.restartBus
  split
  · exact h.congr (by rfl)
  · split
    · exact h.congr (by rfl)
    · split
      · split
        · exact h.congr (by rfl)
        · exact WindowSound.stopWrite (h.congr (by rfl)) _
      all_goals exact h.congr (by rfl)

theorem WindowSound.endRestart {s : State} (h : WindowSound s) : WindowSound s.endRestart :=
  ⟨h.memory, h.notice, h.mask, h.listed, h.posted⟩

theorem WindowSound.startRestart {s : State} (h : WindowSound s) : WindowSound s.startRestart := by
  have hu := h.restart.dropPowerJobs.restartHandOver.restartBus
  unfold State.startRestart
  extract_lets
  split
  · exact hu
  · exact hu.endRestart

theorem WindowSound.writeControl {s : State} (h : WindowSound s) (v : Word) : WindowSound (s.writeControl v) := by
  unfold State.writeControl
  split
  · exact h.startRestart
  · exact h

theorem WindowSound.stopPolling {s : State} (h : WindowSound s) (q : BusRequest) (n : Nat) (a : Bool) :
    WindowSound (s.stopPolling q n a) := by
  unfold State.stopPolling
  split
  · exact WindowSound.writeEffect (h.congr (by rfl)) q
  · exact h.stopWrite q

theorem WindowSound.stopTransaction {s : State} (h : WindowSound s) (b : Bool) : WindowSound (s.stopTransaction b) := by
  unfold State.stopTransaction
  split
  · exact h.congr (by rfl)
  · split
    · exact h.stopPolling ..
    all_goals
      split
      · exact h.stopWrite _
      · exact h.congr (by rfl)

theorem WindowSound.busStopped {s : State} (h : WindowSound s) (b : Bool) : WindowSound (s.busStopped b) := by
  unfold State.busStopped
  split
  · refine WindowSound.endRestart ?_
    split
    · exact h.stopTransaction b
    · exact h
  · exact h

/-- No register stands at an address of a memory word, and one at every other (R1, R3). -/
theorem registerAt_eq_none {n : Nat} (hn : n < 0x2000) : registerAt n = none ↔ n < Config.registerBase := by
  unfold registerAt Config.registerBase
  split
  case h_7 => grind
  all_goals simp

theorem WindowSound.writeRegister {s : State} (h : WindowSound s) (r : Register) (v : Word) :
    WindowSound (s.writeRegister r v) := by
  cases r with
  | post => exact h.writePost v
  | done => exact h.writeDone v
  | notice => exact h.writeNotice v
  | noticeMask => exact h.writeMask v
  | control => exact h.writeControl v
  | ident => exact h

theorem WindowSound.writeAt {s : State} (h : WindowSound s) (addr : BitVec 13) (v : Word) :
    WindowSound (s.writeAt addr v) := by
  unfold State.writeAt
  split
  case h_1 r _ => exact h.writeRegister r v
  case h_2 hr =>
    have := (registerAt_eq_none addr.isLt).1 hr
    exact h.writeMem (by simpa using this)

/-- Words 4 to 18 of a source page. -/
@[simp] theorem descriptorWords_length (d : Option Descriptor) : (descriptorWords d).length = 15 := by
  cases d <;> simp [descriptorWords]

@[simp] theorem headWords_length (s : State) (src : Source) : (s.headWords src).length = 19 := by
  cases src <;> simp [State.headWords]

@[simp] theorem tailWords_length (s : State) (src : Source) : (s.tailWords src).length = 7 := by
  cases src <;> rfl

/-- A page has 64 words: its count and the 63 that its owners show (section 1.4). -/
@[simp] theorem pageWords_length (s : State) (id : PageId) : (s.pageWords id).length = 63 := by
  cases id with
  | source src => simp [State.pageWords, State.sourceWords, SyncRec.measured, words32]
  | cabinet => simp [State.pageWords, State.cabinetShown, words32]

theorem Slot.number_le (i : Slot) : i.number ≤ 8 := by cases i <;> decide

theorem Source.number_le (src : Source) : src.number ≤ 8 := by
  cases src with
  | menu => decide
  | slot i => exact Slot.number_le i

/-- The ten pages stand from 0x0600 to 0x0880 (section 1.1). -/
theorem pageBase_bound (id : PageId) : pageBase id + 64 ≤ 0x0880 := by
  cases id with
  | source src => have := Source.number_le src; simp only [pageBase]; omega
  | cabinet => decide

theorem pageNotice_le (id : PageId) : pageNotice id ≤ 12 := by
  cases id with
  | source src => have := Source.number_le src; simp only [pageNotice]; omega
  | cabinet => decide

theorem State.notePage_shared (s : State) (id : PageId) : (s.notePage id).shared = s.shared := by
  cases id <;> rfl

theorem WindowSound.pageStart {s : State} (h : WindowSound s) (id : PageId) : WindowSound (s.pageStart id) := by
  have hb := pageBase_bound id
  unfold State.pageStart
  extract_lets
  split
  · have hw : WindowSound (s.writeMem (pageBase id) (((s.pages.get id).count + 1) :: s.pageWords id)) :=
      h.writeMem (by simp only [List.length_cons, pageWords_length, Config.registerBase]; omega)
    exact hw.congr (State.notePage_shared ..)
  · exact h

theorem WindowSound.pageEnd {s : State} (h : WindowSound s) (id : PageId) : WindowSound (s.pageEnd id) := by
  have hb := pageBase_bound id
  unfold State.pageEnd
  extract_lets
  split
  · have hw : WindowSound (s.writeMem (pageBase id) [(s.pages.get id).count + 1]) :=
      h.writeMem (by simp only [List.length_singleton, Config.registerBase]; omega)
    exact WindowSound.setNotice (hw.congr (by rfl)) (pageNotice_le id)
  · exact h

end Sys2Proof.Machine
end

section
namespace Sys2Proof.Machine

/-! ### The slots' events -/

theorem WindowSound.presence {s : State} (h : WindowSound s) (i : Slot) : WindowSound (s.presence i) := by
  unfold State.presence
  split <;> exact h.congr (by rfl)

theorem WindowSound.removeBus {s : State} (h : WindowSound s) (i : Slot) : WindowSound (s.removeBus i) := by
  have ht := h.completeAll (cellsFor i s.bus.queue) .noBoard 0 []
  unfold State.removeBus
  extract_lets
  split
  · exact WindowSound.endRestart (ht.congr (by rfl))
  · exact ht.congr (by rfl)

theorem WindowSound.removeRouter {s : State} (h : WindowSound s) (i : Slot) : WindowSound (s.removeRouter i) := by
  unfold State.removeRouter
  extract_lets t r
  have ht : WindowSound t := by
    unfold t
    split
    · exact h.complete ..
    · exact h
  exact ht.congr (by rfl)

theorem WindowSound.removeSlot {s : State} (h : WindowSound s) (i : Slot) : WindowSound (s.removeSlot i) := by
  have he : WindowSound (s.emptySlot i) := h.congr (by rfl)
  unfold State.removeSlot
  split
  · exact h
  · have hb := (he.answerJob i (s.slot i).powerUp .noBoard 0 (s.slot i).mask).removeBus i
    have hc : WindowSound (State.removeCredit (State.emptyRecord _ i) i) := hb.congr (by rfl)
    exact (hc.removeRouter i).controllerSlotFails i _

theorem WindowSound.overcurrent {s : State} (h : WindowSound s) (i : Slot) : WindowSound (s.overcurrent i) := by
  have hf : WindowSound (s.faultSlot i) := h.congr (by rfl)
  unfold State.overcurrent
  split
  · exact WindowSound.controllerSlotFails ((hf.answerJob ..).congr (by rfl)) i _
  · exact h

theorem WindowSound.settled {s : State} (h : WindowSound s) (i : Slot) : WindowSound (s.settled i) := by
  unfold State.settled
  split
  · exact WindowSound.requestNewRun (h.congr (by rfl)) i
  · exact h

theorem WindowSound.setReason {s : State} (h : WindowSound s) (i : Slot) (f : FailReason) :
    WindowSound (s.setReason i f) := h.congr (by rfl)

theorem WindowSound.startFailed {s : State} (h : WindowSound s) (i : Slot) : WindowSound (s.startFailed i) := by
  unfold State.startFailed
  split
  · exact (((h.setReason i _).controllerExpiry i _).restartDecision i).answerJob ..
  · exact h

theorem WindowSound.graceOver {s : State} (h : WindowSound s) (i : Slot) : WindowSound (s.graceOver i) := by
  unfold State.graceOver
  split
  · exact ((h.setReason i _).controllerExpiry i _).restartDecision i
  · exact h

theorem WindowSound.reportMask {s : State} (h : WindowSound s) (i : Slot) (p : PowerUp) (mask : Word) :
    WindowSound (s.reportMask i p mask) := by
  unfold State.reportMask
  split <;> exact h.congr (by rfl)

theorem WindowSound.failPending {s : State} (h : WindowSound s) (i : Slot) (p : PowerUp) (r : Result) (d : Nat)
    (reason : FailReason) : WindowSound (s.failPending i p r d reason) := by
  have ht : WindowSound ((s.modSlot i fun q => { q with powerUp := none }).answerJob i (some p) r d 0) :=
    WindowSound.answerJob (h.congr (by rfl)) ..
  unfold State.failPending
  extract_lets
  split
  · exact ht.pendingFailed ..
  · exact ht

theorem WindowSound.checkPending {s : State} (h : WindowSound s) (i : Slot) : WindowSound (s.checkPending i) := by
  unfold State.checkPending
  split
  · exact h
  · split
    · exact (h.powerSlot ..).reportMask ..
    · refine WindowSound.failPending ?_ ..
      split
      · exact h.setReason ..
      · exact h

theorem WindowSound.cooled {s : State} (h : WindowSound s) (i : Slot) : WindowSound (s.cooled i) := by
  unfold State.cooled
  split
  · extract_lets
    split
    · exact (h.reachOff i).checkPending i
    · exact h.reachOff i
  · exact h

/-! ### The adapter bus -/

theorem WindowSound.startRequest {s : State} (h : WindowSound s) : WindowSound s.startRequest := by
  unfold State.startRequest
  split <;> exact h.congr (by rfl)

theorem WindowSound.loaded {s : State} (h : WindowSound s) (i : Slot) (d : Descriptor) (cells : List CellNo) :
    WindowSound (s.loaded i d cells) := by
  unfold State.loaded
  extract_lets t u
  have hu : WindowSound u := WindowSound.setRatio (h.congr (by rfl)) ..
  exact ((hu.completeAll ..).checkPending i).ratioAnnounced _

theorem WindowSound.loadFailed {s : State} (h : WindowSound s) (i : Slot) (u : Undescribed) (cells : List CellNo) :
    WindowSound (s.loadFailed i u cells) := by
  unfold State.loadFailed
  extract_lets t
  have ht : WindowSound t := WindowSound.completeAll (h.congr (by rfl)) ..
  split
  · exact ht.failPending ..
  · exact ht

theorem WindowSound.dequeue {s : State} (h : WindowSound s) : WindowSound s.dequeue := h.congr (by rfl)

theorem WindowSound.readDone {s : State} (h : WindowSound s) (q : BusRequest) (bytes : List Byte) :
    WindowSound (s.readDone q bytes) := by
  unfold State.readDone
  split
  · split
    · exact h.dequeue.loadFailed ..
    · exact h.dequeue.loaded ..
  · exact h.dequeue.completeAll ..

theorem WindowSound.endRead {s : State} (h : WindowSound s) (bytes : List Byte) : WindowSound (s.endRead bytes) := by
  unfold State.endRead
  split
  · split
    · exact h.readDone ..
    · exact h
  · exact h

theorem WindowSound.dataStop {s : State} (h : WindowSound s) : WindowSound s.dataStop := by
  unfold State.dataStop
  split <;> exact h.congr (by rfl)

theorem WindowSound.advanceTo {s : State} (h : WindowSound s) (t : Stamp) : WindowSound (s.advanceTo t) := by
  rcases advanceTo_cases s t with e | e <;> rw [e]
  · exact h.congr (by rfl)
  · exact h

theorem WindowSound.endWrite {s : State} (h : WindowSound s) (q : BusRequest) (r : Result) (polls : Nat) :
    WindowSound (s.endWrite q r polls) := (h.dequeue.writeEffect q).completeAll ..

theorem WindowSound.polled {s : State} (h : WindowSound s) (q : BusRequest) (polls : Nat) (due : Stamp) (a : Bool) :
    WindowSound (s.polled q polls due a) := by
  unfold State.polled
  split
  · exact h.endWrite ..
  · split
    · exact h.congr (by rfl)
    · exact h.endWrite ..

theorem WindowSound.polledAtRestart {s : State} (h : WindowSound s) (q : BusRequest) (polls : Nat) (a : Bool) :
    WindowSound (s.polledAtRestart q polls a) := by
  unfold State.polledAtRestart
  extract_lets
  split
  · exact (h.stopPolling ..).endRestart
  · exact h.stopPolling ..

theorem WindowSound.poll {s : State} (h : WindowSound s) (a : Bool) : WindowSound (s.poll a) := by
  unfold State.poll
  split
  · split
    · exact (h.advanceTo _).polledAtRestart ..
    · exact (h.advanceTo _).polled ..
  · exact h

theorem WindowSound.pollTimeout {s : State} (h : WindowSound s) : WindowSound s.pollTimeout := by
  unfold State.pollTimeout
  split
  · split
    · exact h
    · exact h.poll false
  all_goals exact h

theorem WindowSound.readNack {s : State} (h : WindowSound s) (q : BusRequest) : WindowSound (s.readNack q) := by
  unfold State.readNack
  split
  · exact h.dequeue.loadFailed ..
  · exact h.dequeue.completeAll ..

theorem WindowSound.writeNack {s : State} (h : WindowSound s) (q : BusRequest) : WindowSound (s.writeNack q) :=
  h.dequeue.completeAll ..

theorem WindowSound.dataNack {s : State} (h : WindowSound s) (q : BusRequest) (k : Nat) : WindowSound (s.dataNack q k) :=
  (h.stopWrite q).completeAll ..

theorem WindowSound.nack {s : State} (h : WindowSound s) (point : AckPoint) : WindowSound (s.nack point) := by
  unfold State.nack
  split
  case h_1 | h_2 | h_3 => exact h.readNack _
  case h_4 | h_5 => exact h.writeNack _
  case h_6 =>
    split
    · exact h.dataNack ..
    · exact h
  case h_7 => exact h

theorem WindowSound.recovered {s : State} (h : WindowSound s) : WindowSound s.recovered := by
  unfold State.recovered
  split
  · exact WindowSound.advanceTo (h.congr (by rfl)) _
  · exact h

/-! ### The sync measurement -/

theorem WindowSound.slotEvent {s : State} (h : WindowSound s) (src : Source) (e : SyncEvent) :
    WindowSound (s.slotEvent src e) := by
  unfold State.slotEvent
  split
  · exact h.slotStable _
  · exact h.enterLost _
  · exact h.enterLost _
  · exact h

theorem WindowSound.controllerEvent {s : State} (h : WindowSound s) (src : Source) (e : SyncEvent) :
    WindowSound (s.controllerEvent src e) := by
  unfold State.controllerEvent
  split
  · split
    · exact h.judge
    · exact h
  all_goals exact h.controllerLoses ..

theorem WindowSound.signal {s : State} (h : WindowSound s) (src : Source) (e : SyncEvent) :
    WindowSound (s.signal src e) :=
  have hm : WindowSound (s.markSource src) := h.congr (by rfl)
  (hm.slotEvent src e).controllerEvent src e

theorem WindowSound.signalIf {s : State} (h : WindowSound s) (src : Source) (e : Option SyncEvent) :
    WindowSound (s.signalIf src e) := by
  cases e with
  | none => exact h
  | some e => exact h.signal src e

theorem WindowSound.announce {s : State} (h : WindowSound s) (src : Source) (t : Stamp) :
    WindowSound (s.announce src t) := by
  unfold State.announce
  extract_lets u
  have hu : WindowSound u := h.congr (by rfl)
  split
  · exact WindowSound.releaseHandled (hu.congr (by rfl))
  · split
    · exact WindowSound.cutHandled (hu.congr (by rfl)) ..
    · exact hu

theorem WindowSound.hsyncAt {s : State} (h : WindowSound s) (src : Source) (t : Stamp) :
    WindowSound (s.hsyncAt src t) := (h.advanceTo t).congr (by rfl)

theorem WindowSound.noteVertical {s : State} (h : WindowSound s) (src : Source) (input : SyncInput) (t : Stamp) :
    WindowSound (s.noteVertical src input t) := by
  unfold State.noteVertical
  split
  · split <;> exact h.congr (by rfl)
  · exact h

theorem WindowSound.vsyncRecord {s : State} (h : WindowSound s) (src : Source) (o : VsyncOutcome) :
    WindowSound (s.vsyncRecord src o) := by
  unfold State.vsyncRecord
  extract_lets
  split <;> exact h.congr (by rfl)

theorem WindowSound.vsyncTaken {s : State} (h : WindowSound s) (src : Source) (input : SyncInput) (t : Stamp) :
    WindowSound (s.vsyncTaken src input t) := by
  unfold State.vsyncTaken
  extract_lets r o u
  have hu : WindowSound u := (((h.noteVertical src input t).advanceTo _).vsyncRecord src o).signalIf src _
  split
  · exact hu.announce src t
  · exact hu

theorem WindowSound.takeCoincident {s : State} (h : WindowSound s) (src : Source) (input : SyncInput) (t : Stamp) :
    WindowSound (s.takeCoincident src input t) := by
  unfold State.takeCoincident
  split
  · split
    · exact h.hsyncAt ..
    · exact h
  · exact h

theorem WindowSound.vsyncAt {s : State} (h : WindowSound s) (src : Source) (input : SyncInput) (p : SyncPulse) :
    WindowSound (s.vsyncAt src input p) := by
  unfold State.vsyncAt
  split
  · split
    · exact h.advanceTo _
    · exact (h.takeCoincident ..).vsyncTaken ..
  · exact h

theorem WindowSound.polarityAt {s : State} (h : WindowSound s) (src : Source) (input : SyncInput) :
    WindowSound (s.polarityAt src input) := by
  unfold State.polarityAt
  split
  · exact WindowSound.signalIf (h.congr (by rfl)) ..
  · exact h

theorem WindowSound.lossOf {s : State} (h : WindowSound s) (src : Source) : WindowSound (s.lossOf src) := by
  unfold State.lossOf
  split
  · exact WindowSound.signal (h.congr (by rfl)) ..
  · exact h

/-! ### The raster generator, the control router and the credit unit -/

theorem WindowSound.startLine {s : State} (h : WindowSound s) : WindowSound s.startLine := by
  unfold State.startLine
  split
  · exact WindowSound.advanceTo (h.congr (by rfl)) _
  · exact h

theorem WindowSound.endFrame {s : State} (h : WindowSound s) : WindowSound s.endFrame := by
  unfold State.endFrame
  split
  · exact ((WindowSound.advanceTo (h.congr (by rfl)) _).countFrame).onFinding _
  · exact h

theorem WindowSound.releaseTimeout {s : State} (h : WindowSound s) : WindowSound s.releaseTimeout := by
  unfold State.releaseTimeout
  split
  · exact WindowSound.releaseHandled (h.congr (by rfl))
  · exact h

theorem WindowSound.settlePins {s : State} (h : WindowSound s) : WindowSound s.settlePins := by
  unfold State.settlePins
  split <;> exact h.congr (by rfl)

theorem WindowSound.activated {s : State} (h : WindowSound s) (l : Line) : WindowSound (s.activated l) := by
  cases l with
  | input i => exact h.congr (by rfl)
  | service => exact WindowSound.routeUnit (h.congr (by rfl))
  | operatorKey => exact h

theorem WindowSound.lineOn {s : State} (h : WindowSound s) (l : Line) : WindowSound (s.lineOn l) := by
  unfold State.lineOn
  split
  · exact h
  · exact (WindowSound.activated (h.congr (by rfl)) l).settlePins

theorem WindowSound.lineOff {s : State} (h : WindowSound s) (l : Line) : WindowSound (s.lineOff l) := by
  unfold State.lineOff
  split
  · exact WindowSound.settlePins (h.congr (by rfl))
  · exact h

theorem WindowSound.installPending {s : State} (h : WindowSound s) (i : Slot) : WindowSound (s.installPending i) := by
  unfold State.installPending
  split
  · exact h
  · exact (WindowSound.complete (h.congr (by rfl)) ..).settlePins

theorem WindowSound.stepEntry {s : State} (h : WindowSound s) (k m : Nat) (f : MapEntry → EntryPhase → EntryPhase) :
    WindowSound (s.stepEntry k m f) := by
  unfold State.stepEntry
  split
  · exact h
  · exact WindowSound.settlePins (h.congr (by rfl))

theorem WindowSound.chordDetected {s : State} (h : WindowSound s) : WindowSound s.chordDetected :=
  (h.setNotice (n := 10) (by decide)).congr (by rfl)

theorem WindowSound.exitChord {s : State} (h : WindowSound s) : WindowSound s.exitChord := by
  unfold State.exitChord
  split
  · split
    · split
      · exact WindowSound.enterFadeOut (h.chordDetected.congr (by rfl)) _
      · exact h.chordDetected
    · exact h
  all_goals exact h

theorem WindowSound.coinBegin {s : State} (h : WindowSound s) (l : CoinLine) : WindowSound (s.coinBegin l) := by
  unfold State.coinBegin
  split
  · exact (h.sampleCoin l _).congr (by rfl)
  · exact h

theorem WindowSound.coinEnd {s : State} (h : WindowSound s) (l : CoinLine) : WindowSound (s.coinEnd l) := by
  have ht : WindowSound { s.sampleCoin l false with credit := s.credit.setLine l .idle } :=
    (h.sampleCoin l false).congr (by rfl)
  unfold State.coinEnd
  dsimp only
  split
  · exact h
  · exact ht
  · split
    · exact ht.coinUnits _
    · exact ht

theorem WindowSound.coinJammed {s : State} (h : WindowSound s) (l : CoinLine) : WindowSound (s.coinJammed l) := by
  unfold State.coinJammed
  split
  · exact ((h.sampleCoin l true).setNotice (n := 12) (by decide)).congr (by rfl)
  all_goals exact h

theorem WindowSound.pulseStart {s : State} (h : WindowSound s) (i : Slot) : WindowSound (s.pulseStart i) := by
  unfold State.pulseStart
  split
  · split <;> exact h.congr (by rfl)
  · exact h

theorem WindowSound.meterStart {s : State} (h : WindowSound s) : WindowSound s.meterStart := by
  unfold State.meterStart
  split <;> exact h.congr (by rfl)

theorem WindowSound.rampTick {s : State} (h : WindowSound s) : WindowSound s.rampTick := by
  unfold State.rampTick
  split
  · exact h.rampOnce.levelReached
  · exact h

/-! ### The jobs -/

theorem WindowSound.powerJob {s : State} (h : WindowSound s) {act : Slot → Job → State → State}
    (hact : ∀ i j u, WindowSound u → WindowSound (act i j u)) (j : Job) : WindowSound (powerJob act j s) := by
  unfold Machine.powerJob
  split
  · exact h.complete ..
  · split
    · exact h.complete ..
    · exact hact _ _ _ h

theorem WindowSound.supersede {s : State} (h : WindowSound s) (i : Slot) : WindowSound (s.supersede i) := by
  unfold State.supersede
  split
  · exact (h.complete ..).congr (by rfl)
  · exact h

theorem WindowSound.powerOff {s : State} (h : WindowSound s) (i : Slot) (j : Job) : WindowSound (s.powerOff i j) := by
  unfold State.powerOff
  split
  · exact h.complete ..
  · unfold State.offByState
    split
    case h_8 => exact (h.reachOff i).complete ..
    case h_9 | h_10 | h_11 => exact h.complete ..
    all_goals exact WindowSound.complete ((h.supersede i).congr (by rfl)) ..

theorem WindowSound.powerRequest {s : State} (h : WindowSound s) (i : Slot) (j : Job) :
    WindowSound (s.powerRequest i j) := by
  unfold State.powerRequest
  extract_lets a
  have ha : WindowSound a.2 := h.request ..
  unfold State.answerPower
  split
  any_goals exact ha.complete ..
  exact ha

theorem WindowSound.powerOn {s : State} (h : WindowSound s) (i : Slot) (j : Job) : WindowSound (s.powerOn i j) := by
  unfold State.powerOn
  split
  · exact h.complete ..
  · exact h.powerRequest i j

theorem WindowSound.cycleThrough {s : State} (h : WindowSound s) (i : Slot) (j : Job) :
    WindowSound (s.cycleThrough i j) := WindowSound.reloadRestarts (h.congr (by rfl)) i

theorem WindowSound.powerCycle {s : State} (h : WindowSound s) (i : Slot) (j : Job) :
    WindowSound (s.powerCycle i j) := by
  unfold State.powerCycle
  split
  · exact h.complete ..
  · unfold State.cycleByState
    split
    case h_6 => exact (h.supersede i).cycleThrough i j
    case h_7 =>
      split
      · exact (h.supersede i).cycleThrough i j
      · exact h.complete ..
    case h_8 => exact WindowSound.cycleThrough (h.congr (by rfl)) i j
    case h_9 => exact h.powerRequest i j
    case h_10 | h_11 => exact h.complete ..
    all_goals exact WindowSound.cycleThrough ((h.supersede i).congr (by rfl)) i j

theorem WindowSound.setPin {s : State} (h : WindowSound s) (b : Bool) (i : Slot) (j : Job) :
    WindowSound (s.setPin b i j) := by
  unfold State.setPin
  split
  · exact h.complete ..
  · exact WindowSound.complete (h.congr (by rfl)) ..

theorem WindowSound.supplyJob {s : State} (h : WindowSound s) (j : Job) : WindowSound (supplyJob j s) := by
  unfold Machine.supplyJob
  extract_lets
  split
  · exact h.complete ..
  · exact WindowSound.complete (h.congr (by rfl)) ..

theorem WindowSound.supersedeMap {s : State} (h : WindowSound s) (i : Slot) : WindowSound (s.supersedeMap i) := by
  unfold State.supersedeMap
  split
  · exact h.complete ..
  · exact h

theorem WindowSound.loadMapJob {s : State} (h : WindowSound s) (j : Job) : WindowSound (loadMapJob j s) := by
  unfold Machine.loadMapJob
  split
  · exact h.complete ..
  · split
    any_goals exact h.complete ..
    all_goals
      unfold State.judgeMap
      split
      · exact h.complete ..
      · unfold State.acceptMap
        split
        · exact (h.supersedeMap _).congr (by rfl)
        · exact WindowSound.complete (h.congr (by rfl)) ..

theorem WindowSound.chordJob {s : State} (h : WindowSound s) (j : Job) : WindowSound (chordJob j s) := by
  unfold Machine.chordJob
  extract_lets
  split
  · exact h.complete ..
  · split
    · exact h.complete ..
    · split
      · exact h.complete ..
      · exact WindowSound.complete (h.congr (by rfl)) ..

theorem WindowSound.creditJob {s : State} (h : WindowSound s) {act : Job → State → State}
    (hact : ∀ j u, WindowSound u → WindowSound (act j u)) (j : Job) : WindowSound (creditJob act j s) := by
  unfold Machine.creditJob
  split
  · exact h.complete ..
  · exact hact _ _ h

theorem WindowSound.amountJob {s : State} (h : WindowSound s) {act : Job → State → State}
    (hact : ∀ j u, WindowSound u → WindowSound (act j u)) (j : Job) : WindowSound (amountJob act j s) := by
  unfold Machine.amountJob
  split
  · exact h.complete ..
  · exact hact _ _ h

theorem WindowSound.grantJob {s : State} (h : WindowSound s) (j : Job) : WindowSound (grantJob j s) :=
  WindowSound.complete (h.congr (by rfl)) ..

theorem WindowSound.withdrawCredit {s : State} (h : WindowSound s) (j : Job) : WindowSound (withdrawCredit j s) :=
  WindowSound.complete (h.congr (by rfl)) ..

theorem WindowSound.deliverJob {s : State} (h : WindowSound s) (j : Job) : WindowSound (deliverJob j s) := by
  unfold Machine.deliverJob
  split
  · split
    · exact WindowSound.complete (h.congr (by rfl)) ..
    · exact h.complete ..
  all_goals exact h.complete ..

theorem WindowSound.recallJob {s : State} (h : WindowSound s) (j : Job) : WindowSound (recallJob j s) := by
  unfold Machine.recallJob
  split
  · exact h.complete ..
  · exact WindowSound.complete (h.congr (by rfl)) ..

theorem WindowSound.coinJob {s : State} (h : WindowSound s) (j : Job) : WindowSound (coinJob j s) := by
  unfold Machine.coinJob
  split
  · exact h.complete ..
  · exact WindowSound.complete (h.congr (by rfl)) ..

theorem WindowSound.levelsJob {s : State} (h : WindowSound s) (j : Job) : WindowSound (levelsJob j s) := by
  have hset (item : Nat) (src : Source) (v : Nat) : WindowSound (s.setItem item src v) := by
    unfold State.setItem
    split
    · exact h.congr (by rfl)
    · split
      · exact h.congr (by rfl)
      · split <;> exact h.congr (by rfl)
  have hlevel (c : CellNo) (item : Nat) (src : Source) (value : Nat) : WindowSound (s.setLevel c item src value) := by
    unfold State.setLevel
    extract_lets v moves t u
    have ht : WindowSound t := by
      unfold t
      split
      · exact (hset ..).recomputeAudio
      · exact hset ..
    split
    · exact (ht.complete ..).levelReached
    · exact ht.complete ..
  unfold Machine.levelsJob
  split
  · exact h.complete ..
  · split
    · exact hlevel ..
    · split
      · exact h.complete ..
      · exact hlevel ..

theorem WindowSound.monitorJob {s : State} (h : WindowSound s) (j : Job) : WindowSound (monitorJob j s) := by
  unfold Machine.monitorJob
  split
  · exact h.complete ..
  · exact WindowSound.complete (h.congr (by rfl)) ..

theorem WindowSound.glideJob {s : State} (h : WindowSound s) (j : Job) : WindowSound (glideJob j s) := by
  unfold Machine.glideJob
  split
  · exact h.complete ..
  · exact WindowSound.complete (h.congr (by rfl)) ..

theorem WindowSound.eepromChecks {s : State} (h : WindowSound s) {ok : Nat → Nat → Bool} {act : Slot → Job → State → State}
    (hact : ∀ i j u, WindowSound u → WindowSound (act i j u)) (j : Job) : WindowSound (eepromChecks ok act j s) := by
  unfold Machine.eepromChecks
  split
  · exact h.complete ..
  · split
    · exact h.complete ..
    · split
      · exact h.complete ..
      · split
        · exact h.complete ..
        · exact hact _ _ _ h

theorem WindowSound.queueRead {s : State} (h : WindowSound s) (i : Slot) (j : Job) : WindowSound (queueRead i j s) :=
  h.congr (by rfl)

theorem WindowSound.queueWrite {s : State} (h : WindowSound s) (i : Slot) (j : Job) : WindowSound (queueWrite i j s) := by
  unfold Machine.queueWrite
  split
  · exact h.complete ..
  · exact h.congr (by rfl)

theorem WindowSound.reloadJob {s : State} (h : WindowSound s) (j : Job) : WindowSound (reloadJob j s) := by
  unfold Machine.reloadJob
  split
  · exact h.complete ..
  · split
    any_goals exact h.complete ..
    all_goals exact h.congr (by rfl)

theorem WindowSound.switchJob {s : State} (h : WindowSound s) (j : Job) : WindowSound (switchJob j s) := by
  unfold Machine.switchJob
  split
  · exact h.complete ..
  · exact h.takeSwitch _

theorem WindowSound.abortWaiting {s : State} (h : WindowSound s) : WindowSound s.abortWaiting := by
  unfold State.abortWaiting
  split
  · exact (h.complete ..).congr (by rfl)
  · exact h

theorem WindowSound.abortJob {s : State} (h : WindowSound s) (j : Job) : WindowSound (abortJob j s) := by
  unfold Machine.abortJob
  split
  any_goals exact h.complete ..
  any_goals exact (h.completeActive ..).cancel.complete ..
  any_goals exact (h.completeActive ..).chooseAnew.complete ..
  exact h.abortWaiting.complete ..

/-! ### The step -/

theorem WindowSound.advanceChord {s : State} (h : WindowSound s) : WindowSound s.advanceChord := h.congr (by rfl)

/-- What the part does by itself leaves the window and the intake alone: it counts, and queues what is due. -/
theorem WindowSound.idle {s : State} (h : WindowSound s) : WindowSound s.idle := by
  unfold State.idle
  split
  case h_10 => split <;> exact h.congr (by rfl)
  all_goals exact h.congr (by rfl)

/-- The end of a command adds marks alone. -/
theorem WindowSound.finish {old new t : State} (h : WindowSound new) (e : finish old new = .next t) : WindowSound t := by
  cases e; exact h.congr (by rfl)

theorem reset_windowSound : WindowSound State.reset :=
  ⟨rfl, BitVec.zero_and, BitVec.zero_and, List.nodup_nil, fun c => by simp [State.cell, State.reset, Intake.reset]⟩

/-- Every command keeps the window sound: each changes the window and the intake by its completions, its take, its notice or
its register write alone. -/
theorem WindowSound.exec {s t : State} (h : WindowSound s) (c : Instr) (e : exec c s = .next t) : WindowSound t := by
  cases c with
  | windowWrite addr v => exact (h.writeAt addr v).finish e
  | post v => exact (h.writePost v).finish e
  | done v => exact (h.writeDone v).finish e
  | notice v => exact (h.writeNotice v).finish e
  | noticeMask v => exact (h.writeMask v).finish e
  | writeNoEffect r v => exact h.finish e
  | softRestart v => exact (h.writeControl v).finish e
  | softRestartEnd b => exact (h.busStopped b).finish e
  | powerOnReset => cases e; exact reset_windowSound.congr (by rfl)
  | unknownKind => exact (h.takeIf fun j u hu => hu.complete ..).finish e
  | switch => exact (h.takeIf fun j u hu => hu.switchJob j).finish e
  | abort => exact (h.takeIf fun j u hu => hu.abortJob j).finish e
  | powerOff => exact (h.takeIf fun j u hu => hu.powerJob (fun i j u hu => hu.powerOff i j) j).finish e
  | powerOn => exact (h.takeIf fun j u hu => hu.powerJob (fun i j u hu => hu.powerOn i j) j).finish e
  | powerCycle => exact (h.takeIf fun j u hu => hu.powerJob (fun i j u hu => hu.powerCycle i j) j).finish e
  | pin => exact (h.takeIf fun j u hu => hu.powerJob (fun i j u hu => hu.setPin _ i j) j).finish e
  | unpin => exact (h.takeIf fun j u hu => hu.powerJob (fun i j u hu => hu.setPin _ i j) j).finish e
  | loadMap => exact (h.takeIf fun j u hu => hu.loadMapJob j).finish e
  | creditGrant =>
    exact (h.takeIf fun j u hu => hu.creditJob (fun j u hu => hu.amountJob (fun j u hu => hu.grantJob j) j) j).finish e
  | creditWithdraw =>
    exact (h.takeIf fun j u hu => hu.creditJob (fun j u hu => hu.amountJob (fun j u hu => hu.withdrawCredit j) j) j).finish e
  | creditDeliver =>
    exact (h.takeIf fun j u hu => hu.creditJob (fun j u hu => hu.amountJob (fun j u hu => hu.deliverJob j) j) j).finish e
  | creditRecall => exact (h.takeIf fun j u hu => hu.creditJob (fun j u hu => hu.recallJob j) j).finish e
  | setLevels => exact (h.takeIf fun j u hu => hu.levelsJob j).finish e
  | setupMonitor => exact (h.takeIf fun j u hu => hu.monitorJob j).finish e
  | setupGlide => exact (h.takeIf fun j u hu => hu.glideJob j).finish e
  | setupChord => exact (h.takeIf fun j u hu => hu.chordJob j).finish e
  | setupCoin => exact (h.takeIf fun j u hu => hu.coinJob j).finish e
  | setupSupply => exact (h.takeIf fun j u hu => hu.supplyJob j).finish e
  | eepromRead => exact (h.takeIf fun j u hu => hu.eepromChecks (fun i j u hu => hu.queueRead i j) j).finish e
  | eepromWrite => exact (h.takeIf fun j u hu => hu.eepromChecks (fun i j u hu => hu.queueWrite i j) j).finish e
  | reload => exact (h.takeIf fun j u hu => hu.reloadJob j).finish e
  | pageUpdateStart id => exact (h.pageStart id).finish e
  | pageUpdateEnd id => exact (h.pageEnd id).finish e
  | presenceDetected i => exact (h.presence i).finish e
  | removal i => exact (h.removeSlot i).finish e
  | overcurrent i => exact (h.overcurrent i).finish e
  | settleTimerExpiry i => exact (h.settled i).finish e
  | startTimerExpiry i => exact (h.startFailed i).finish e
  | graceTimerExpiry i => exact (h.graceOver i).finish e
  | coolTimerExpiry i => exact (h.cooled i).finish e
  | busRequestStart => exact h.startRequest.finish e
  | readTransactionEnd bytes => exact (h.endRead bytes).finish e
  | writeDataStop => exact h.dataStop.finish e
  | ackPoll a => exact (h.poll a).finish e
  | writeTimeout => exact h.pollTimeout.finish e
  | ackMissing p => exact (h.nack p).finish e
  | writeRecoveryEnd => exact h.recovered.finish e
  | hsyncLeadingEdge src t => exact (h.hsyncAt src t).finish e
  | vsyncLeadingEdge src input p => exact (h.vsyncAt src input p).finish e
  | polarityChange src input => exact (h.polarityAt src input).finish e
  | hsyncLoss src => exact (h.lossOf src).finish e
  | vsyncLoss src => exact (h.lossOf src).finish e
  | holdingLineStart => exact h.startLine.finish e
  | holdingFrameEnd => exact h.endFrame.finish e
  | releaseTimerExpiry => exact h.releaseTimeout.finish e
  | lineActivation l => exact (h.lineOn l).finish e
  | lineRelease l => exact (h.lineOff l).finish e
  | mapInstall i => exact (h.installPending i).finish e
  | pulseEntryEnd k n => exact (h.stepEntry k n.val _).finish e
  | autofireOnEnd k n => exact (h.stepEntry k n.val _).finish e
  | autofireOffEnd k n => exact (h.stepEntry k n.val _).finish e
  | exitChord => exact h.exitChord.finish e
  | coinPulseEnd l => exact (h.coinEnd l).finish e
  | coinJam l => exact (h.coinJammed l).finish e
  | coinPulseStart i => exact (h.pulseStart i).finish e
  | coinPulseOnEnd i => exact (h.congr (by rfl) : WindowSound (s.pulseOnEnd i)).finish e
  | meterPulseStart => exact h.meterStart.finish e
  | meterPulseOnEnd =>
    exact (h.congr (by rfl) : WindowSound { s with credit.meter := s.credit.meter.map Pulse.rest }).finish e
  | rampStep => exact h.rampTick.finish e
  | coinMeasuringBegins l => exact (h.coinBegin l).finish e
  | coinPulseOffEnd i => exact (h.congr (by rfl) : WindowSound (s.pulseOffEnd i)).finish e
  | meterPulseOffEnd =>
    exact (h.congr (by rfl) : WindowSound { s with credit.meter := s.credit.meter.bind Pulse.ended }).finish e
  | setupBadGroup => exact (h.takeIf fun j u hu => hu.complete ..).finish e

/-- Settles O4: a step is the front command on the rest of the queue, or the part's own idling. -/
theorem stepKeepsWindowSound : Obligations.StepKeepsWindowSound := by
  intro s t h e
  unfold step at e
  split at e
  case h_1 c rest _ => exact WindowSound.exec (h.congr (by rfl) : WindowSound { s with pending := rest }) c e
  case h_2 => exact h.idle.finish e

end Sys2Proof.Machine
end

section
namespace Sys2Proof.Machine

/-! ### Bits of a word, and the register views (R3, R5) -/

theorem bitvec_ne_zero_iff {w : Nat} (x : BitVec w) : x ≠ 0 ↔ ∃ n, x.getLsbD n = true := by
  refine ⟨fun h => Classical.byContradiction fun hn => h (BitVec.eq_of_getLsbD_eq fun n _ => ?_), ?_⟩
  · simpa using fun hb => hn ⟨n, hb⟩
  · rintro ⟨n, hb⟩ rfl
    simp at hb

/-- The bit of a cell or of a page. -/
theorem getLsbD_oneShift {k : Nat} (hk : k < 16) (n : Nat) : (1#16 <<< k).getLsbD n = decide (n = k) := by
  rw [Bool.eq_iff_iff]
  simp only [BitVec.getLsbD_shiftLeft, BitVec.getLsbD_one, Bool.and_eq_true, decide_eq_true_eq, Bool.not_eq_true',
    decide_eq_false_iff_not]
  omega

/-- The bits a view of the cells sets, on top of those of `w`. -/
theorem cellBits_foldl (s : State) (p : CellState → Bool) (n : Nat) (cs : List CellNo) (w : Word) :
    (cs.foldl (fun w c => if p (s.cell c) then w ||| (1#16 <<< c.val) else w) w).getLsbD n = true ↔
      w.getLsbD n = true ∨ ∃ c, c ∈ cs ∧ c.val = n ∧ p (s.cell c) = true := by
  induction cs generalizing w with
  | nil => simp
  | cons c cs ih =>
    rw [List.foldl_cons, ih]
    by_cases hp : p (s.cell c) = true
    · simp only [hp, if_true, BitVec.getLsbD_or, getLsbD_oneShift c.isLt, Bool.or_eq_true, decide_eq_true_eq,
        List.mem_cons]
      grind
    · simp [hp]

/-- A view of the cells sets the bit of each cell that satisfies it, and no other (R3). -/
theorem getLsbD_cellBits (s : State) (p : CellState → Bool) (n : Nat) :
    (cellBits s p).getLsbD n = true ↔ ∃ c : CellNo, c.val = n ∧ p (s.cell c) = true := by
  simp [cellBits, cellBits_foldl]

theorem cellBits_ne_zero (s : State) (p : CellState → Bool) : cellBits s p ≠ 0 ↔ ∃ c, p (s.cell c) = true := by
  rw [bitvec_ne_zero_iff]
  constructor
  · rintro ⟨n, hn⟩
    obtain ⟨c, _, hc⟩ := (getLsbD_cellBits s p n).1 hn
    exact ⟨c, hc⟩
  · rintro ⟨c, hc⟩
    exact ⟨c.val, (getLsbD_cellBits s p c.val).2 ⟨c, rfl, hc⟩⟩

/-- DONE reads other than 0 while a cell is DONE (R3, R5). -/
theorem doneView_ne_zero (s : State) : s.doneView ≠ 0 ↔ ∃ c, s.cell c = .done :=
  (cellBits_ne_zero s _).trans (by simp)

theorem getLsbD_noticeBits (n : Nat) : (0x1FFF#16).getLsbD n = decide (n ≤ 12) := by
  by_cases hn : n < 16
  · revert n; decide
  · rw [BitVec.getLsbD_of_ge _ _ (by omega)]
    simp; omega

/-- An enabled notice bit is set (R5). -/
theorem enabledNotice_iff (x m : Word) :
    x &&& m &&& 0x1FFF ≠ 0 ↔ ∃ n, n ≤ 12 ∧ x.getLsbD n = true ∧ m.getLsbD n = true := by
  rw [bitvec_ne_zero_iff]
  simp only [BitVec.getLsbD_and, Bool.and_eq_true]
  refine exists_congr fun n => ?_
  rw [show (0x1FFF : Word) = 0x1FFF#16 from rfl, getLsbD_noticeBits, decide_eq_true_eq]
  exact ⟨fun ⟨⟨hx, hm⟩, hn⟩ => ⟨hn, hx, hm⟩, fun ⟨hn, hx, hm⟩ => ⟨⟨hx, hm⟩, hn⟩⟩

theorem attn_iff (s : State) : s.attn = true ↔
    (s.intake.mask.getLsbD 15 = true ∧ ∃ c, s.cell c = .done) ∨
      ∃ n, n ≤ 12 ∧ s.intake.notice.getLsbD n = true ∧ s.intake.mask.getLsbD n = true := by
  simp only [State.attn, Bool.or_eq_true, Bool.and_eq_true, decide_eq_true_eq, doneView_ne_zero, enabledNotice_iff]

/-- The bits of NOTICE_MASK that the table of section 1.2 names. -/
theorem getLsbD_maskBits {n : Nat} (hn : n < 16) : (0x9FFF#16).getLsbD n = decide (n ≠ 13 ∧ n ≠ 14) := by
  revert n; decide

theorem getLsbD_writeMask (s : State) (v : Word) {n : Nat} (hn : n < 16) :
    (s.writeMask v).intake.mask.getLsbD n = (v.getLsbD n && decide (n ≠ 13 ∧ n ≠ 14)) := by
  rw [State.writeMask_intake, BitVec.getLsbD_and]
  exact congrArg _ (getLsbD_maskBits hn)

/-- Settles O16: ATTN is the two conditions of R5, and a mask write changes nothing else that they read. -/
theorem attnLevel : Obligations.AttnLevel := by
  refine ⟨attn_iff, fun s v => ⟨_, rfl, ?_, ?_, ?_⟩⟩
  · rintro ⟨hv, hc⟩
    refine (attn_iff _).2 (.inl ⟨?_, hc⟩)
    exact (getLsbD_writeMask s v (by decide)).trans (by simp [hv])
  · rintro ⟨n, hn, hs, hv⟩
    refine (attn_iff _).2 (.inr ⟨n, hn, hs, ?_⟩)
    exact (getLsbD_writeMask s v (by omega)).trans (by simp [hv]; omega)
  · rintro rfl
    refine Bool.eq_false_iff.2 fun h => ?_
    have hm : (0 : Word) &&& 0x9FFF = 0 := by decide
    rcases (attn_iff _).1 h with ⟨hb, _⟩ | ⟨n, _, _, hb⟩
    all_goals
      simp only [State.writeMask_intake, hm] at hb
      simp at hb

/-! ### Writes to the registers (R3, R4, R6, R7, R11) -/

/-- Settles O12: the address picks the register. -/
theorem registerAddressActsAsRegister : Obligations.RegisterAddressActsAsRegister :=
  fun _ _ => ⟨rfl, rfl, rfl, rfl, rfl, rfl⟩

/-- Settles O15: a register write changes its register alone, and WRITE_NO_EFFECT nothing. -/
theorem noticeAndMaskWrites : Obligations.NoticeAndMaskWrites := by
  refine fun s v r => ⟨⟨_, rfl, fun n hn => ?_, rfl, rfl, onlyMarks_of_pages rfl⟩,
    ⟨_, rfl, fun n hn => getLsbD_writeMask s v hn, rfl, rfl, onlyMarks_of_pages rfl⟩,
    fun _ => ⟨_, rfl, rfl, onlyMarks_of_pages rfl⟩⟩
  simp [State.writeNotice, hn]

/-- What returning some cells leaves of a cell (R11). -/
theorem returnCells_cell (cs : List CellNo) (s : State) (d : CellNo) :
    (cs.foldl State.returnCell s).cell d = if d ∈ cs ∧ s.cell d = .done then .free else s.cell d := by
  induction cs generalizing s with
  | nil => simp
  | cons c cs ih =>
    have hc : (s.returnCell c).cell d = if d = c ∧ s.cell d = .done then .free else s.cell d := by
      unfold State.returnCell
      split
      · rw [cell_setCell]; grind
      · grind
    rw [List.foldl_cons, ih, hc]
    grind

/-- Returning cells changes the cells alone. -/
theorem returnCells_frame (cs : List CellNo) (s : State) :
    cs.foldl State.returnCell s =
      { s with intake := { s.intake with cells := (cs.foldl State.returnCell s).intake.cells } } := by
  induction cs generalizing s with
  | nil => rfl
  | cons c cs ih =>
    have hc : s.returnCell c = { s with intake := { s.intake with cells := (s.returnCell c).intake.cells } } := by
      unfold State.returnCell
      split <;> rfl
    refine (ih (s.returnCell c)).trans ?_
    rw [List.foldl_cons]
    generalize (cs.foldl State.returnCell (s.returnCell c)).intake.cells = cells
    rw [hc]

/-- Settles O14: the cells that return to FREE are the DONE ones of those whose bits are set. -/
theorem doneWrite : Obligations.DoneWrite := by
  intro s v
  have hcell (c : CellNo) : (s.writeDone v).cell c = if v.getLsbD c.val = true ∧ s.cell c = .done then .free else s.cell c :=
    (returnCells_cell (cellsIn v) s c).trans (by simp only [mem_cellsIn])
  obtain ⟨cells, hf⟩ : ∃ cells, s.writeDone v = { s with intake := { s.intake with cells := cells } } :=
    ⟨_, returnCells_frame (cellsIn v) s⟩
  rw [hf] at hcell
  exact ⟨_, congrArg (finish s) hf, hcell, rfl, rfl, onlyMarks_of_pages rfl⟩

/-- A later intake fault overwrites the record of an earlier one (R7). -/
theorem intakeFault_intakeFault (s : State) (c d : CellNo) (r : IntakeFault) :
    (s.intakeFault c r).intakeFault d r = s.intakeFault d r := by
  simp [State.intakeFault, State.markCabinet, State.mark, State.setNotice, Pages.set, Pages.get, Page.marked,
    BitVec.or_assoc]

/-- Of several intake faults the record keeps the last (R7). -/
theorem intakeFaults_eq (s : State) (r : IntakeFault) (cs : List CellNo) :
    cs.foldl (fun t c => t.intakeFault c r) s =
      match cs.getLast? with
      | none => s
      | some c => s.intakeFault c r := by
  induction cs generalizing s with
  | nil => rfl
  | cons c cs ih =>
    rw [List.foldl_cons, ih, List.getLast?_cons]
    cases cs.getLast? with
    | none => rfl
    | some d => exact intakeFault_intakeFault s c d r

/-- What posting some cells leaves of a cell (R6). -/
theorem postCells_cell (cs : List CellNo) (s : State) (d : CellNo) :
    (cs.foldl State.postCell s).cell d = if d ∈ cs then .posted else s.cell d := by
  induction cs generalizing s with
  | nil => simp
  | cons c cs ih =>
    have hc : (s.postCell c).cell d = if d = c then .posted else s.cell d := cell_setCell s c d .posted
    rw [List.foldl_cons, ih, hc]
    grind

/-- Postings change the cells and lengthen the intake list in their order (R6). -/
theorem postCells_frame (cs : List CellNo) (s : State) :
    cs.foldl State.postCell s = { s with intake := { s.intake with
      cells := (cs.foldl State.postCell s).intake.cells, list := s.intake.list ++ cs } } := by
  induction cs generalizing s with
  | nil => simp
  | cons c cs ih =>
    refine (ih (s.postCell c)).trans ?_
    simp [State.postCell, State.setCell]

/-- Settles O13: the postings come first, each at the tail of the list; the faults after them leave the cells alone. -/
theorem postWrite : Obligations.PostWrite := by
  intro s v posts faults
  have hposts : (cellsIn v).filter s.postable = allCells.filter posts := by
    simp only [cellsIn, List.filter_filter]
    refine List.filter_congr fun c _ => ?_
    simp only [posts, State.postable]
    cases v.getLsbD c.val <;> simp
  have hfaults : (cellsIn v).filter (fun c => !s.postable c) = faults := by
    simp only [cellsIn, List.filter_filter, faults]
    refine List.filter_congr fun c _ => ?_
    simp only [posts, State.postable]
    cases v.getLsbD c.val <;> simp
  let p := (allCells.filter posts).foldl State.postCell s
  have hw : s.writePost v = match faults.getLast? with
      | none => p
      | some c => p.intakeFault c s.postFault := by
    rw [State.writePost, hposts, hfaults]
    exact intakeFaults_eq p s.postFault faults
  have hp : p = { s with intake := { s.intake with
      cells := p.intake.cells, list := s.intake.list ++ allCells.filter posts } } := postCells_frame _ s
  have hcell (c : CellNo) : p.cell c = if posts c then .posted else s.cell c := by
    have := postCells_cell (allCells.filter posts) s c
    simpa using this
  generalize hr : p.intake.cells = cs at hp
  generalize p = q at *
  refine ⟨_, rfl, ?_⟩
  rw [hw]
  cases faults.getLast? with
  | none =>
    subst hp
    exact ⟨hcell, rfl, rfl, rfl, ⟨rfl, rfl, rfl⟩, rfl, onlyMarks_of_pages rfl⟩
  | some c =>
    subst hp
    refine ⟨hcell, rfl, rfl, rfl, ⟨rfl, rfl, rfl, ?_⟩, rfl, onlyMarks_of_mark (id := .cabinet) rfl⟩
    simp [State.intakeFault, remarkPages]

/-! ### Writes to memory words (R1) -/

/-- A host write below the registers is a write to a memory word. -/
theorem writeAt_mem (s : State) {addr : BitVec 13} (ha : addr.toNat < Config.registerBase) (v : Word) :
    s.writeAt addr v = s.writeMem addr.toNat [v] := by
  simp [State.writeAt, (registerAt_eq_none addr.isLt).2 ha]

/-- No register reads a memory word or a page's record. -/
theorem readRegister_congr {s t : State} (h : t.intake = s.intake) (r : Register) :
    t.readRegister r = s.readRegister r := by
  have hc (c : CellNo) : t.cell c = s.cell c := by simp only [State.cell, h]
  cases r <;> simp [State.readRegister, State.postView, State.doneView, cellBits, hc, h]

/-- Settles O11. -/
theorem memoryWriteReadsBack : Obligations.MemoryWriteReadsBack := by
  intro s addr v hw ha
  have hr := (registerAt_eq_none addr.isLt).2 ha
  refine ⟨_, congrArg (finish s) (writeAt_mem s ha v), ?_, fun b hb => ?_, rfl, onlyMarks_of_pages rfl⟩
  · simp only [State.readWindow, hr]
    exact Window.read_write_same (lo := 0) v hw
  · unfold State.readWindow
    split
    · exact readRegister_congr rfl _
    · exact Window.read_write_other (fun e => hb (BitVec.eq_of_toNat_eq e)) v

/-! ### Power-on reset (R18, R45, R64, R81, R90, R100, R175) -/

/-- Settles O9: each invariant is read off the reset values. -/
theorem resetMeetsInvariants : Obligations.ResetMeetsInvariants := by
  refine ⟨reset_windowSound, rfl, ⟨by decide, by decide⟩, ⟨by decide, rfl, rfl⟩,
    ⟨List.nodup_nil, fun i => by cases i <;> decide, by decide, List.nodup_nil, fun i hi => by cases hi⟩, ?_⟩
  exact ⟨by decide, fun _ => ⟨rfl, rfl, rfl⟩, by decide, by decide, by decide, by decide, by decide, by decide,
    fun i hi => by cases hi⟩

/-- Settles O10: the state that power-on reset answers is the reset state but for the queue and the input lines. -/
theorem powerOnResetState : Obligations.PowerOnResetState := by
  intro s
  have hfree (c : CellNo) : State.reset.cell c = .free := by simp [State.cell, State.reset, Intake.reset]
  have hattn : ({ State.reset with pending := s.pending, pins := s.pins } : State).attn = false := by
    refine Bool.eq_false_iff.2 fun h => ?_
    rcases (attn_iff _).1 h with ⟨hb, _⟩ | ⟨n, _, _, hb⟩ <;> simp [State.reset, Intake.reset] at hb
  refine ⟨_, rfl, fun _ => rfl, rfl, rfl, rfl, rfl, rfl, rfl, hattn, hfree, rfl, rfl, rfl, fun id => ?_, fun i => ?_,
    rfl, rfl, rfl, rfl, rfl, rfl, rfl, rfl, rfl, rfl, rfl, rfl⟩
  · rcases id with (_ | i) | _
    · rfl
    · cases i <;> rfl
    · rfl
  · cases i <;> exact ⟨rfl, rfl, rfl, rfl, rfl, rfl, rfl⟩

/-! ### Jobs that the intake completes at their take (R9, R10) -/

/-- A job that ends at its take without any other effect changes the window, the intake and the marks alone. -/
theorem take_complete_frame (s : State) (c : CellNo) (r : Result) (d : Nat) (l : List Nat) :
    (s.take c).complete c r d l = { s with
      window := ((s.take c).complete c r d l).window, intake := ((s.take c).complete c r d l).intake } := by
  unfold State.complete
  split <;> rfl

/-- A job refused by what its row's owner does with it ends at its take, and nothing else changes. -/
theorem refused_at_take {s : State} {j : Job} (hw : s.window.wf = true) (hj : s.headJob = some j)
    {due : Job → Bool} {act : Job → State → State} (hd : due j = true) {r : Result} {d : Nat} {l : List Nat}
    (hact : act j (s.take j.cell) = (s.take j.cell).complete j.cell r d l) :
    ∃ t, finish s (s.takeIf due act) = .next t ∧ EndsAtTake s t j r d l ∧
      t = { s with window := t.window, intake := t.intake, pages := t.pages } := by
  let u := (s.take j.cell).complete j.cell r d l
  exact ⟨{ u with pages := remarkPages s u }, congrArg (finish s) ((takeIf_due hj hd act).trans hact),
    ends_at_take (m := s.take j.cell) hw rfl rfl (fun _ => ⟨rfl, id⟩) r d l,
    congrArg (fun v : State => { v with pages := remarkPages s u }) (take_complete_frame s j.cell r d l)⟩

/-- Settles O20. -/
theorem takeErrorsComplete : Obligations.TakeErrorsComplete := by
  intro s j hw hj
  refine ⟨fun hk => refused_at_take hw hj ?_ rfl, fun hk hg => refused_at_take hw hj ?_ rfl⟩
  · simpa [Job.isUnknown] using hk
  · simp [Job.isBadGroup, Job.isKind, hk, hg]

end Sys2Proof.Machine
end

section
namespace Sys2Proof.Machine

/-! ### A job that ends at its take, with what its owner has done before the completion (R8, R10) -/

/-- Marks that a state gains over another stand after the end of the command. -/
theorem finish_keeps_mark {s m : State} {id : PageId} (h : (m.pages.get id).mark = true) :
    ((remarkPages s m).get id).mark = true := remarkPages_keeps s m id h

/-- The owner of the head job makes the state `m` and completes the job there: but for the window, the intake and the
marks the command answers `m`. -/
theorem ended_at_take {s m : State} {j : Job} (hw : s.window.wf = true) (hj : s.headJob = some j)
    {due : Job → Bool} {act : Job → State → State} (hd : due j = true) {r : Result} {d : Nat} {l : List Nat}
    (hact : act j (s.take j.cell) = m.complete j.cell r d l) (hwin : m.window = s.window)
    (hint : m.intake = (s.take j.cell).intake)
    (hpages : ∀ id, (m.pages.get id).count = (s.pages.get id).count ∧
      ((s.pages.get id).mark = true → (m.pages.get id).mark = true)) :
    ∃ w n p, finish s (s.takeIf due act) = .next { m with window := w, intake := n, pages := p } ∧
      EndsAtTake s { m with window := w, intake := n, pages := p } j r d l ∧
      ∀ id, (m.pages.get id).mark = true → (p.get id).mark = true := by
  let u := m.complete j.cell r d l
  have hu : u = { m with window := u.window, intake := u.intake } := complete_frame m j.cell r d l
  have ht : ({ u with pages := remarkPages s u } : State) =
      { m with window := u.window, intake := u.intake, pages := remarkPages s u } :=
    congrArg (fun v : State => { v with pages := remarkPages s u }) hu
  refine ⟨u.window, u.intake, remarkPages s u, ?_, ?_, fun id hm => ?_⟩
  · rw [← ht, takeIf_due hj hd act, hact]; rfl
  · rw [← ht]; exact ends_at_take hw hwin hint hpages r d l
  · exact finish_keeps_mark (by rw [hu]; exact hm)

/-! ### Control maps (R145 to R148, R154) -/

/-- A LOAD_MAP for a slot with a descriptor copy in force is judged by the staged map (R145, R146). -/
theorem loadMapJob_admitted {s : State} {j : Job} {i : Slot} (hi : Slot.ofNumber (j.word 2) = some i)
    (hs : (s.slot i).state ∉ [SlotState.empty, .loading, .undescribed]) : loadMapJob j s = s.judgeMap i j.cell := by
  simp only [loadMapJob, hi]
  cases h : (s.slot i).state <;> simp_all

/-- The pin count against which a map is judged is the descriptor copy's (R146). -/
theorem pinCount_eq_figure (s : State) (i : Slot) : s.pinCount i = s.figure i Descriptor.pinCount := by
  unfold State.pinCount State.figure
  cases s.copy i <;> rfl

/-- A take changes nothing by which a staged map is judged. -/
theorem judgeMap_take (s : State) (i : Slot) (c c' : CellNo) : (s.take c).judgeMap i c' =
    match s.stagedMap i (s.figure i Descriptor.pinCount) with
    | .inl detail => (s.take c).complete c' .badMap detail []
    | .inr m => (s.take c).acceptMap i c' m := by
  rw [← pinCount_eq_figure]
  rfl

/-- What becomes of a LOAD_MAP that is not refused for its slot's state (R146, R147). -/
theorem loadMapJob_take {s : State} {j : Job} {i : Slot} (hi : Slot.ofNumber (j.word 2) = some i)
    (hs : (s.slot i).state ∉ [SlotState.empty, .loading, .undescribed]) : loadMapJob j (s.take j.cell) =
    match s.stagedMap i (s.figure i Descriptor.pinCount) with
    | .inl detail => (s.take j.cell).complete j.cell .badMap detail []
    | .inr m => (s.take j.cell).acceptMap i j.cell m :=
  (loadMapJob_admitted (s := s.take j.cell) hi hs).trans (judgeMap_take s i j.cell j.cell)

/-- A map installed: the entry states are reset when it is the driven slot's (R147, R154). -/
theorem installMap_eq (i : Slot) (m : ControlMap) (r : Router) : r.installMap i m = { r with
    maps := r.maps.set i m,
    entries := if r.driven = some i then resetEntries r.inputs m.entries else r.entries } := by
  unfold Router.installMap
  extract_lets t
  by_cases h : r.driven = some i
  · have hm : t.drivenMap = m.entries := by simp [t, Router.drivenMap, h]
    rw [if_pos h, if_pos h, Router.resetStates, hm]
  · rw [if_neg h, if_neg h]

/-- A map for a slot that is neither on air nor has a pending map replaces its map at the take (R147). -/
theorem acceptMap_replaces {s : State} {i : Slot} (ha : s.ho.onAir ≠ some (.slot i))
    (hp : s.router.pendingMaps.get i = none) (c : CellNo) (m : ControlMap) : s.acceptMap i c m =
      ({ s with router := s.router.installMap i m }.markSource (.slot i)).completeMap c m := by
  simp [State.acceptMap, ha, hp]

/-- A map for the slot on air becomes its pending map (R147). -/
theorem acceptMap_waits {s : State} {i : Slot} (ha : s.ho.onAir = some (.slot i))
    (hp : s.router.pendingMaps.get i = none) (c : CellNo) (m : ControlMap) : s.acceptMap i c m =
      { s with router := { s.router with pendingMaps := s.router.pendingMaps.set i (some (m, c)) } } := by
  simp [State.acceptMap, State.supersedeMap, ha, hp]

/-- Settling the pins after an event of the router touches the active pins alone. -/
theorem settlePins_frame (s : State) :
    s.settlePins = { s with router := { s.router with activePins := s.settlePins.router.activePins } } := by
  unfold State.settlePins State.drivePins Router.drive
  split
  · rfl
  · split <;> rfl

/-- What the installation of a pending map does before its job completes (R147, R154). -/
def State.withMap (s : State) (i : Slot) (m : ControlMap) : State :=
  { s with router := { s.router with pendingMaps := s.router.pendingMaps.set i none }.installMap i m }.markSource (.slot i)

theorem installPending_some {s : State} {i : Slot} {m : ControlMap} {c : CellNo}
    (hp : s.router.pendingMaps.get i = some (m, c)) :
    s.installPending i = ((s.withMap i m).complete c .ok 0 [m.entries.length, m.label.toNat]).settlePins := by
  simp only [State.installPending, hp, State.completeMap, State.withMap]

/-- LOAD_MAP of a slot that is not the driven one, whose map passes: replaced at the take (R147). -/
theorem loadMap_replaces {s : State} {i : Slot} {j : Job} {m : ControlMap} (hj : NextJob s j 4)
    (hi : Slot.ofNumber (j.word 2) = some i) (hs : (s.slot i).state ∉ [SlotState.empty, .loading, .undescribed])
    (hp : s.router.pendingMaps.get i = none) (hm : s.stagedMap i (s.figure i Descriptor.pinCount) = .inr m)
    (ha : s.ho.onAir ≠ some (.slot i)) (hd : s.router.driven ≠ some i) :
    ∃ t, exec .loadMap s = .next t ∧ EndsAtTake s t j .ok 0 [m.entries.length, m.label.toNat] ∧
      t.router = { s.router with maps := s.router.maps.set i m } ∧ (t.pages.get (.source (.slot i))).mark = true ∧
      t = { s with window := t.window, intake := t.intake, pages := t.pages, router := t.router } := by
  obtain ⟨hw, hh, hk⟩ := hj
  have hr : s.router.installMap i m = { s.router with maps := s.router.maps.set i m } := by simp [installMap_eq, hd]
  have hact : loadMapJob j (s.take j.cell) =
      (({ s.take j.cell with router := s.router.installMap i m } : State).markSource (.slot i)).complete j.cell .ok 0
        [m.entries.length, m.label.toNat] := by
    rw [loadMapJob_take hi hs, hm]
    exact acceptMap_replaces (s := s.take j.cell) ha hp j.cell m
  obtain ⟨w, n, p, he, hend, hmark⟩ := ended_at_take (due := Job.isKind 4) hw hh (by simp [Job.isKind, hk]) hact rfl rfl
    fun id => ⟨mark_count s (.source (.slot i)) id, mark_keeps s (.source (.slot i)) id⟩
  exact ⟨_, he, hend, hr, hmark _ (by simp [State.markSource, State.mark]), rfl⟩

/-- LOAD_MAP of the slot on air, whose map passes: the map is pending and the job waits (R147). -/
theorem loadMap_waits {s : State} {i : Slot} {j : Job} {m : ControlMap} (hj : NextJob s j 4)
    (hi : Slot.ofNumber (j.word 2) = some i) (hs : (s.slot i).state ∉ [SlotState.empty, .loading, .undescribed])
    (hp : s.router.pendingMaps.get i = none) (hm : s.stagedMap i (s.figure i Descriptor.pinCount) = .inr m)
    (ha : s.ho.onAir = some (.slot i)) :
    ∃ t, exec .loadMap s = .next t ∧ WaitsWithOwner s t j ∧
      t.router = { s.router with pendingMaps := s.router.pendingMaps.set i (some (m, j.cell)) } ∧
      t = { s with intake := t.intake, pages := t.pages, router := t.router } := by
  obtain ⟨hw, hh, hk⟩ := hj
  have hact : loadMapJob j (s.take j.cell) = { s.take j.cell with
      router := { s.router with pendingMaps := s.router.pendingMaps.set i (some (m, j.cell)) } } := by
    rw [loadMapJob_take hi hs, hm]
    exact acceptMap_waits (s := s.take j.cell) ha hp j.cell m
  exact ⟨_, congrArg (finish s) ((takeIf_due hh (by simp [Job.isKind, hk]) _).trans hact),
    waits_with_owner rfl rfl fun _ => ⟨rfl, id⟩, rfl, rfl⟩

/-- The installation of a pending map (R147, R154). -/
theorem mapInstall_installs {s : State} {i : Slot} {m : ControlMap} {c : CellNo} (hw : s.window.wf = true)
    (hp : s.router.pendingMaps.get i = some (m, c)) (hc : s.cell c = .taken) :
    ∃ t, exec (.mapInstall i) s = .next t ∧ CompletesCell s t c .ok 0 [m.entries.length, m.label.toNat] ∧
      (s.router.driven = some i → t.router.entries = resetEntries s.router.inputs m.entries) ∧
      (s.router.driven ≠ some i → t.router.entries = s.router.entries) ∧
      t.router = { s.router with
        maps := s.router.maps.set i m, pendingMaps := s.router.pendingMaps.set i none, entries := t.router.entries,
        activePins := t.router.activePins } ∧
      (t.pages.get (.source (.slot i))).mark = true ∧
      t = { s with window := t.window, intake := t.intake, pages := t.pages, router := t.router } := by
  have hr := installMap_eq i m { s.router with pendingMaps := s.router.pendingMaps.set i none }
  have hreads := complete_reads (s := s.withMap i m) hw hc .ok 0 [m.entries.length, m.label.toNat]
  have hdone := complete_taken (s := s.withMap i m) hc .ok 0 [m.entries.length, m.label.toNat]
  generalize hu : (s.withMap i m).complete c .ok 0 [m.entries.length, m.label.toNat] = u at hreads hdone
  have hpin := settlePins_frame u
  generalize u.settlePins.router.activePins = pins at hpin
  refine ⟨_, congrArg (finish s) ((installPending_some hp).trans ((congrArg State.settlePins hu).trans hpin)), ?_⟩
  have hrouter : u.router = Router.installMap i m { s.router with pendingMaps := s.router.pendingMaps.set i none } := by
    rw [hdone]; rfl
  have hpages : u.pages = (s.mark (.source (.slot i))).pages := by rw [hdone]; rfl
  refine ⟨⟨by rw [hdone]; rfl, hreads.1, hreads.2, onlyMarks_of_mark hpages⟩, fun h => ?_, fun h => ?_, ?_, ?_, ?_⟩
  · show u.router.entries = _
    rw [hrouter, hr]
    exact if_pos h
  · show u.router.entries = _
    rw [hrouter, hr]
    exact if_neg h
  · show ({ u.router with activePins := pins } : Router) = { s.router with
      maps := s.router.maps.set i m, pendingMaps := s.router.pendingMaps.set i none, entries := u.router.entries,
      activePins := pins }
    rw [hrouter, hr]
  · exact finish_keeps_mark (by simp [hpages, State.mark])
  · rw [hdone]; rfl

/-- Settles O29. -/
theorem controlMapLoad : Obligations.ControlMapLoad := by
  refine fun s i => ⟨fun j hj hi hs hp => ⟨fun detail hm => ?_, fun m hm =>
    ⟨fun ha hd => loadMap_replaces hj hi hs hp hm ha hd, fun ha => loadMap_waits hj hi hs hp hm ha⟩⟩,
    fun m c hw hp hc => mapInstall_installs hw hp hc⟩
  obtain ⟨hw, hh, hk⟩ := hj
  refine refused_at_take hw hh (by simp [Job.isKind, hk]) ?_
  rw [loadMapJob_take hi hs, hm]

end Sys2Proof.Machine
end

section
namespace Sys2Proof.Machine

/-! ### Reading a list by the parts it is put together from -/

theorem getD_append_add {α : Type} {l : List α} {n : Nat} (hl : l.length = n) (r : List α) (k : Nat) (d : α) :
    (l ++ r).getD (n + k) d = r.getD k d := by
  rw [List.getD_append_right _ _ _ _ (by omega)]
  congr 1
  omega

theorem getD_map_ofNat (l : List Nat) (k : Nat) : (l.map (BitVec.ofNat 16)).getD k 0 = BitVec.ofNat 16 (l.getD k 0) :=
  List.getD_map l 0 (BitVec.ofNat 16)

/-- Byte pairs in words (R19): word k holds bytes 2k and 2k + 1. -/
theorem getD_packBytes : ∀ (bytes : List Byte) (k : Nat),
    (packBytes bytes).getD k 0 = (bytes.getD (2 * k) 0).toNat + 256 * (bytes.getD (2 * k + 1) 0).toNat
  | [], k => by simp [packBytes]
  | [b], 0 => rfl
  | [b], k + 1 => by simp [packBytes]
  | b :: c :: rest, 0 => rfl
  | b :: c :: rest, k + 1 => getD_packBytes rest k

theorem packBytes_length : ∀ bytes : List Byte, (packBytes bytes).length = (bytes.length + 1) / 2
  | [] => rfl
  | [_] => by simp [packBytes]
  | _ :: _ :: rest => by
    simp only [packBytes, List.length_cons, packBytes_length rest]
    omega

/-- A 32-bit field: its low word and its high word (R19). -/
theorem words32_eq (v : Count32) :
    words32 v = [BitVec.ofNat 16 (v.toNat % 65536), BitVec.ofNat 16 (v.toNat / 65536)] := by
  have hlow : v.setWidth 16 = BitVec.ofNat 16 (v.toNat % 65536) := by
    apply BitVec.eq_of_toNat_eq
    simp
  have hhigh : (v >>> 16).setWidth 16 = BitVec.ofNat 16 (v.toNat / 65536) := by
    apply BitVec.eq_of_toNat_eq
    simp [Nat.shiftRight_eq_div_pow]
  rw [words32, hlow, hhigh]

/-! ### The words of the pages (section 1.8) -/

/-- Words 3 to 21 of a source page: what its owners show (R15, R20). -/
theorem sourceWords_head (s : State) (src : Source) {k : Nat} (hk : k < 19) :
    (s.sourceWords src).getD (2 + k) 0 = BitVec.ofNat 16 ((s.headWords src).getD k 0) := by
  have hl : ((s.headWords src).map (BitVec.ofNat 16)).length = 19 := by simp
  simp only [State.sourceWords, List.append_assoc]
  rw [getD_append_add (n := 2) rfl, List.getD_append _ _ _ _ (by omega), getD_map_ofNat]

/-- What stands before the measurement fields of a source page: words 1 to 21. -/
theorem sourceWords_front_length (s : State) (src : Source) :
    ([BitVec.ofNat 16 (s.stateCode src), BitVec.ofNat 16 (s.ownerFlags src + (s.record src).flags)] ++
      (s.headWords src).map (BitVec.ofNat 16)).length = 21 := by simp

/-- Words 22 to 28 of a source page: the measurement fields. -/
theorem sourceWords_measured (s : State) (src : Source) {k : Nat} (hk : k < 7) :
    (s.sourceWords src).getD (21 + k) 0 = (s.record src).measured.getD k 0 := by
  rw [State.sourceWords, List.append_assoc, List.append_assoc, getD_append_add (sourceWords_front_length s src),
    List.getD_append _ _ _ _ hk]

/-- Words 29 to 35 of a source page. -/
theorem sourceWords_tail (s : State) (src : Source) {k : Nat} (hk : k < 7) :
    (s.sourceWords src).getD (28 + k) 0 = (s.tailWords src).getD k 0 := by
  have ht : k < (s.tailWords src).length := by simpa using hk
  rw [State.sourceWords, List.append_assoc, List.append_assoc, show 28 + k = 21 + (7 + k) by omega,
    getD_append_add (sourceWords_front_length s src), getD_append_add (n := 7) rfl, List.getD_append _ _ _ _ ht]

/-- Words 36 to 63 of a source page are not used. -/
theorem sourceWords_unused (s : State) (src : Source) {k : Nat} (hk : k < 28) :
    (s.sourceWords src).getD (35 + k) 0 = 0 := by
  rw [State.sourceWords, List.append_assoc, List.append_assoc, show 35 + k = 21 + (7 + (7 + k)) by omega,
    getD_append_add (sourceWords_front_length s src), getD_append_add (n := 7) rfl, getD_append_add (by simp),
    List.getD_replicate _ hk]

/-- Words 4 to 18 of a slot's page: the descriptor's fields (R20). -/
theorem headWords_descriptor (s : State) (i : Slot) {k : Nat} (hk : k < 15) :
    (s.headWords (.slot i)).getD (1 + k) 0 = (descriptorWords (s.copy i)).getD k 0 := by
  have hl : k < (descriptorWords (s.copy i)).length := by simpa using hk
  rw [State.headWords, Nat.add_comm, List.cons_append, List.getD_cons_succ, List.getD_append _ _ _ _ hl]

/-- Words 19 to 21 of a slot's page: the window and the restarts left. -/
theorem headWords_last (s : State) (i : Slot) (k : Nat) :
    (s.headWords (.slot i)).getD (16 + k) 0 = [((s.window? (.slot i)).getD (0, 0)).1,
      ((s.window? (.slot i)).getD (0, 0)).2, (s.slot i).restarts].getD k 0 := by
  rw [State.headWords, show 16 + k = (15 + k) + 1 by omega, List.cons_append, List.getD_cons_succ,
    getD_append_add (by simp)]

theorem descriptorWords_name (d : Descriptor) {k : Nat} (hn : d.name.length = 12) (hk : k < 6) :
    (descriptorWords (some d)).getD (2 + k) 0 =
      (d.name.getD (2 * k) 0).toNat + 256 * (d.name.getD (2 * k + 1) 0).toNat := by
  have hp : (packBytes d.name).length = 6 := by rw [packBytes_length, hn]
  have htake : (packBytes d.name ++ List.replicate 6 0).take 6 = packBytes d.name := by
    rw [← hp]; exact List.take_left
  simp only [descriptorWords, htake, List.append_assoc]
  rw [getD_append_add (n := 2) rfl, List.getD_append _ _ _ _ (by omega), getD_packBytes]

/-- The descriptor's timing fields and the pulse cap. -/
theorem descriptorWords_last (d : Descriptor) (k : Nat) : (descriptorWords (some d)).getD (8 + k) 0 =
    [d.settle, d.startTimeout, d.grace, d.cool, d.coinOn, d.coinOff, d.pulseCap].getD k 0 := by
  rw [descriptorWords, getD_append_add (by simp)]

/-- Words 1 to 24 of the cabinet page. -/
def State.cabinetFront (s : State) : List Word :=
  [sourceField s.ho.onAir, s.ho.phase.code, s.ho.kind.code, sourceField s.ho.outgoing, sourceField s.ho.target,
    flag (decide (s.raster.mode = .hold)), s.raster.p, s.raster.l, s.ho.lastFallback.code].map (BitVec.ofNat 16) ++
  words32 s.router.inputs ++
  [flag s.router.sampledA + 2 * flag s.router.sampledB + 4 * flag s.router.service + 8 * flag s.router.operatorKey,
    flag s.router.chordFreeze, s.credit.bank].map (BitVec.ofNat 16) ++
  words32 s.credit.coins ++ words32 s.credit.granted ++ words32 s.credit.withdrawn ++ words32 s.credit.unbanked ++
  words32 s.credit.deliveredTotal

/-- Words 30 to 37 of the cabinet page as numbers: the warm list. -/
def State.warmWords (s : State) : List Nat := (s.warm.map Slot.number ++ List.replicate 8 0).take 8

/-- Words 25 to 42 of the cabinet page as numbers. -/
def State.cabinetBack (s : State) : List Nat :=
  [s.credit.meterPending, flag s.credit.jam, flag s.credit.lockout, s.draw, s.budget] ++ s.warmWords ++
    [s.bus.queue.length, s.intake.faultCell, s.intake.faultReason.code, s.audio.current, s.audio.target]

theorem cabinetShown_eq (s : State) : s.cabinetShown = s.cabinetFront ++ s.cabinetBack.map (BitVec.ofNat 16) := rfl

theorem warmWords_length (s : State) : s.warmWords.length = 8 := by simp [State.warmWords]

theorem getD_warmWords (s : State) {k : Nat} (hk : k < 8) : s.warmWords.getD k 0 =
    match s.warm[k]? with
    | some i => i.number
    | none => 0 := by
  have h : s.warmWords[k]? = (s.warm.map Slot.number ++ List.replicate 8 0)[k]? := by
    rw [State.warmWords, List.getElem?_take, if_pos hk]
  rw [List.getD_eq_getElem?_getD, h]
  by_cases hw : k < s.warm.length
  · rw [List.getElem?_append_left (by simpa using hw), List.getElem?_map, List.getElem?_eq_getElem hw]
    rfl
  · rw [List.getElem?_append_right (by simpa using hw), List.getElem?_replicate, List.getElem?_eq_none (by omega)]
    split <;> rfl

/-- Words 1 to 24 of the cabinet page. -/
theorem cabinetWords_front (s : State) {k : Nat} (hk : k < 24) :
    (s.pageWords .cabinet).getD k 0 = s.cabinetFront.getD k 0 := by
  rw [State.pageWords, cabinetShown_eq, List.append_assoc, List.getD_append _ _ _ _ hk]

theorem cabinetBack_length (s : State) : s.cabinetBack.length = 18 := by
  simp [State.cabinetBack, warmWords_length]

/-- Words 25 to 42 of the cabinet page. -/
theorem cabinetWords_back (s : State) {k : Nat} (hk : k < 18) :
    (s.pageWords .cabinet).getD (24 + k) 0 = BitVec.ofNat 16 (s.cabinetBack.getD k 0) := by
  have hb : k < (s.cabinetBack.map (BitVec.ofNat 16)).length := by simpa [cabinetBack_length] using hk
  rw [State.pageWords, cabinetShown_eq, List.append_assoc, getD_append_add (n := 24) rfl, List.getD_append _ _ _ _ hb,
    getD_map_ofNat]

/-- Words 43 to 63 of the cabinet page are not used. -/
theorem cabinetWords_unused (s : State) {k : Nat} (hk : k < 21) : (s.pageWords .cabinet).getD (42 + k) 0 = 0 := by
  have hl : s.cabinetShown.length = 42 := by simp [cabinetShown_eq, cabinetBack_length]; rfl
  rw [State.pageWords, getD_append_add hl, List.getD_replicate _ hk]

theorem cabinetBack_warm (s : State) {k : Nat} (hk : k < 8) : s.cabinetBack.getD (5 + k) 0 = s.warmWords.getD k 0 := by
  rw [State.cabinetBack, List.append_assoc, getD_append_add (n := 5) rfl,
    List.getD_append _ _ _ _ (by rw [warmWords_length]; exact hk)]

theorem cabinetBack_last (s : State) (k : Nat) : s.cabinetBack.getD (13 + k) 0 =
    [s.bus.queue.length, s.intake.faultCell, s.intake.faultReason.code, s.audio.current, s.audio.target].getD k 0 := by
  rw [State.cabinetBack, getD_append_add (by simp [warmWords_length])]

/-! ### What a page shows once its update has begun (R13, R15, R20) -/

/-- The page of `id` as it stands in `t` holds the words that `s` gives it. -/
def HoldsPage (s t : State) (id : PageId) : Prop := ∀ k, k < 63 → t.pageWord id (k + 1) = (s.pageWords id).getD k 0

/-- The flags of a source page, bit by bit. -/
theorem flags_bits (a b c d e : Bool) :
    let w := BitVec.ofNat 16 (flag a + 2 * flag b + (4 * flag c + 8 * flag d + 16 * flag e))
    w.getLsbD 0 = a ∧ w.getLsbD 1 = b ∧ w.getLsbD 2 = c ∧ w.getLsbD 3 = d ∧ w.getLsbD 4 = e := by
  revert a b c d e; decide

theorem showsMeasured_of_holds {s t : State} {src : Source} (h : HoldsPage s t (.source src)) : ShowsMeasured s t src := by
  obtain ⟨a, b, hab⟩ : ∃ a b : Bool, s.ownerFlags src = flag a + 2 * flag b := by
    cases src with
    | menu => exact ⟨false, false, rfl⟩
    | slot i => exact ⟨_, _, rfl⟩
  have hflags : t.pageWord (.source src) 2 = BitVec.ofNat 16 (s.ownerFlags src + (s.record src).flags) :=
    h 1 (by decide)
  have hbits := flags_bits a b (s.record src).stable (s.record src).interlaced (s.record src).horizontalPositive
  rw [hab] at hflags
  have hm (k : Nat) (hk : k < 7) : t.pageWord (.source src) (21 + k + 1) = (s.record src).measured.getD k 0 :=
    (h (21 + k) (by omega)).trans (sourceWords_measured s src hk)
  have hf := words32_eq (s.record src).frameTime
  constructor
  case stable => exact (congrArg (BitVec.getLsbD · 2) hflags).trans hbits.2.2.1
  case interlaced => exact (congrArg (BitVec.getLsbD · 3) hflags).trans hbits.2.2.2.1
  case polarity => exact (congrArg (BitVec.getLsbD · 4) hflags).trans hbits.2.2.2.2
  case period => exact hm 0 (by decide)
  case lines => exact hm 1 (by decide)
  case count => exact hm 2 (by decide)
  case frame =>
    refine ⟨(hm 3 (by decide)).trans ?_, (hm 4 (by decide)).trans ?_⟩
    all_goals rw [SyncRec.measured, hf]; rfl
  case last => exact ⟨hm 5 (by decide), hm 6 (by decide)⟩
  case unused =>
    intro k hk hk'
    have := (h (35 + (k - 36)) (by omega)).trans (sourceWords_unused s src (by omega))
    rwa [show 35 + (k - 36) + 1 = k by omega] at this

theorem showsDescriptor_of_holds {s t : State} {i : Slot} (h : HoldsPage s t (.source (.slot i))) :
    ShowsDescriptor t (.source (.slot i)) (s.copy i) := by
  have hd (k : Nat) (hk : k < 15) :
      ShowsAt t (.source (.slot i)) (4 + k) ((descriptorWords (s.copy i)).getD k 0) := by
    have := (h (2 + (1 + k)) (by omega)).trans (sourceWords_head s (.slot i) (by omega))
    rw [headWords_descriptor s i hk] at this
    rwa [show 2 + (1 + k) + 1 = 4 + k by omega] at this
  have hw (k : Nat) (hk : k < 2) : ShowsAt t (.source (.slot i)) (19 + k) ((s.headWords (.slot i)).getD (16 + k) 0) := by
    have := (h (2 + (16 + k)) (by omega)).trans (sourceWords_head s (.slot i) (by omega))
    rwa [show 2 + (16 + k) + 1 = 19 + k by omega] at this
  simp only [headWords_last, State.window?] at hw
  cases hc : s.copy i with
  | none =>
    rw [hc] at hd hw
    intro k hk hk'
    by_cases h15 : k < 19
    · have := hd (k - 4) (by omega)
      rw [descriptorWords, List.getD_replicate _ (by omega)] at this
      rwa [show 4 + (k - 4) = k by omega] at this
    · obtain rfl | rfl : k = 19 ∨ k = 20 := by omega
      · exact hw 0 (by decide)
      · exact hw 1 (by decide)
  | some d =>
    rw [hc] at hd hw
    have hl (k : Nat) (hk : k < 7) := (descriptorWords_last d k) ▸ hd (8 + k) (by omega)
    refine ⟨hd 0 (by decide), hd 1 (by decide), fun hn k hk => ?_, hl 0 (by decide), hl 1 (by decide), hl 2 (by decide),
      hl 3 (by decide), hl 4 (by decide), hl 5 (by decide), hl 6 (by decide), hw 0 (by decide), hw 1 (by decide)⟩
    have := hd (2 + k) (by omega)
    rw [descriptorWords_name d hn hk] at this
    rwa [show 4 + (2 + k) = 6 + k by omega] at this

theorem showsSlot_of_holds {s t : State} {i : Slot} (h : HoldsPage s t (.source (.slot i))) : ShowsSlot s t i := by
  have hflags : t.pageWord (.source (.slot i)) 2 =
      BitVec.ofNat 16 (s.ownerFlags (.slot i) + (s.record (.slot i)).flags) := h 1 (by decide)
  have hbits := flags_bits (s.slot i).pinned (s.bus.stale.get i) (s.record (.slot i)).stable
    (s.record (.slot i)).interlaced (s.record (.slot i)).horizontalPositive
  have ht (k : Nat) (hk : k < 7) : t.pageWord (.source (.slot i)) (28 + k + 1) = (s.tailWords (.slot i)).getD k 0 :=
    (h (28 + k) (by omega)).trans (sourceWords_tail s (.slot i) hk)
  constructor
  case state =>
    refine (h 0 (by decide)).trans (congrArg (BitVec.ofNat 16) ?_)
    show (s.slot i).state.code = _
    cases (s.slot i).state <;> rfl
  case pinned => exact (congrArg (BitVec.getLsbD · 0) hflags).trans hbits.1
  case stale => exact (congrArg (BitVec.getLsbD · 1) hflags).trans hbits.2.1
  case reason =>
    refine (h 2 (by decide)).trans ((sourceWords_head s (.slot i) (k := 0) (by decide)).trans ?_)
    refine congrArg (BitVec.ofNat 16) ?_
    show (s.slot i).reason.code = _
    cases (s.slot i).reason <;> rfl
  case descriptor => exact showsDescriptor_of_holds h
  case restarts =>
    refine (h 20 (by decide)).trans ((sourceWords_head s (.slot i) (k := 18) (by decide)).trans ?_)
    exact congrArg (BitVec.ofNat 16) (headWords_last s i 2)
  case measured => exact showsMeasured_of_holds h
  case pending => exact ht 0 (by decide)
  case delivered =>
    have hv := words32_eq (s.credit.delivered.get i)
    refine ⟨(ht 1 (by decide)).trans ?_, (ht 2 (by decide)).trans ?_⟩
    all_goals rw [State.tailWords, hv]; rfl
  case entries => exact ht 3 (by decide)
  case label => exact ht 4 (by decide)
  case ratio => exact ht 5 (by decide)

theorem showsMenu_of_holds {s t : State} (h : HoldsPage s t (.source .menu)) : ShowsMenu s t := by
  have hflags : t.pageWord (.source .menu) 2 =
      BitVec.ofNat 16 (s.ownerFlags .menu + (s.record .menu).flags) := h 1 (by decide)
  have hbits := flags_bits false false (s.record .menu).stable (s.record .menu).interlaced
    (s.record .menu).horizontalPositive
  have hhead (k : Nat) (hk : k < 19) : t.pageWord (.source .menu) (2 + k + 1) =
      BitVec.ofNat 16 ((List.replicate 16 0 ++ [s.raster.pMin, s.raster.pMax, 0]).getD k 0) :=
    (h (2 + k) (by omega)).trans (sourceWords_head s .menu hk)
  have ht (k : Nat) (hk : k < 7) : t.pageWord (.source .menu) (28 + k + 1) = (s.tailWords .menu).getD k 0 :=
    (h (28 + k) (by omega)).trans (sourceWords_tail s .menu hk)
  constructor
  case state => exact h 0 (by decide)
  case flags =>
    exact ⟨(congrArg (BitVec.getLsbD · 0) hflags).trans hbits.1, (congrArg (BitVec.getLsbD · 1) hflags).trans hbits.2.1⟩
  case none =>
    rintro k (⟨hk, hk'⟩ | rfl | ⟨hk, hk'⟩ | rfl)
    · have := hhead (k - 3) (by omega)
      rw [List.getD_append _ _ _ _ (by rw [List.length_replicate]; omega), List.getD_replicate _ (by omega)] at this
      rwa [show 2 + (k - 3) + 1 = k by omega] at this
    · exact hhead 18 (by decide)
    · have := ht (k - 29) (by omega)
      rw [State.tailWords, show ([0, 0, 0, 0, 0, BitVec.ofNat 16 s.audio.ratios.menu, 0] : List Word) =
        List.replicate 5 0 ++ [BitVec.ofNat 16 s.audio.ratios.menu, 0] from rfl,
        List.getD_append _ _ _ _ (by rw [List.length_replicate]; omega), List.getD_replicate _ (by omega)] at this
      rwa [show 28 + (k - 29) + 1 = k by omega] at this
    · exact ht 6 (by decide)
  case window => exact ⟨hhead 16 (by decide), hhead 17 (by decide)⟩
  case ratio => exact ht 5 (by decide)
  case measured => exact showsMeasured_of_holds h

theorem sourceField_eq_sourceShown (src : Option Source) : sourceField src = sourceShown src := by
  rcases src with _ | _ | _ <;> rfl

theorem showsCabinet_of_holds {s t : State} (h : HoldsPage s t .cabinet) : ShowsCabinet s t := by
  have hfront (k : Nat) (hk : k < 24) : t.pageWord .cabinet (k + 1) = s.cabinetFront.getD k 0 :=
    (h k (by omega)).trans (cabinetWords_front s hk)
  have hback (k : Nat) (hk : k < 18) : t.pageWord .cabinet (24 + k + 1) = BitVec.ofNat 16 (s.cabinetBack.getD k 0) :=
    (h (24 + k) (by omega)).trans (cabinetWords_back s hk)
  have hlast (k : Nat) (hk : k < 5) : t.pageWord .cabinet (38 + k) = BitVec.ofNat 16
      ([s.bus.queue.length, s.intake.faultCell, s.intake.faultReason.code, s.audio.current, s.audio.target].getD k 0) := by
    rw [← cabinetBack_last, ← hback (13 + k) (by omega)]
    congr 1
    omega
  have hlong (v : Count32) {a b : Word} (hv : words32 v = [a, b]) :
      a = BitVec.ofNat 16 (v.toNat % 65536) ∧ b = BitVec.ofNat 16 (v.toNat / 65536) := by
    rw [words32_eq] at hv
    simp only [List.cons.injEq, and_true] at hv
    exact ⟨hv.1.symm, hv.2.symm⟩
  have hlongs (v : Count32) (k : Nat) (hk : k + 1 < 24)
      (hv : words32 v = [s.cabinetFront.getD k 0, s.cabinetFront.getD (k + 1) 0]) : ShowsLong t .cabinet (k + 1) v :=
    ⟨(hfront k (by omega)).trans (hlong v hv).1, (hfront (k + 1) hk).trans (hlong v hv).2⟩
  constructor
  case onAir => exact (hfront 0 (by decide)).trans (congrArg (BitVec.ofNat 16) (sourceField_eq_sourceShown _))
  case phase =>
    refine (hfront 1 (by decide)).trans (congrArg (BitVec.ofNat 16) ?_)
    show s.ho.phase.code = _
    cases s.ho.phase <;> rfl
  case kind =>
    refine (hfront 2 (by decide)).trans (congrArg (BitVec.ofNat 16) ?_)
    show s.ho.kind.code = _
    cases s.ho.kind <;> rfl
  case sources =>
    exact ⟨(hfront 3 (by decide)).trans (congrArg (BitVec.ofNat 16) (sourceField_eq_sourceShown _)),
      (hfront 4 (by decide)).trans (congrArg (BitVec.ofNat 16) (sourceField_eq_sourceShown _))⟩
  case mode =>
    refine (hfront 5 (by decide)).trans (congrArg (BitVec.ofNat 16) ?_)
    show flag (decide (s.raster.mode = .hold)) = _
    cases s.raster.mode <;> rfl
  case holding => exact ⟨hfront 6 (by decide), hfront 7 (by decide)⟩
  case inputs => exact hlongs _ 9 (by decide) rfl
  case bank => exact hfront 13 (by decide)
  case totals =>
    exact ⟨hlongs _ 14 (by decide) rfl, hlongs _ 16 (by decide) rfl, hlongs _ 18 (by decide) rfl,
      hlongs _ 20 (by decide) rfl, hlongs _ 22 (by decide) rfl⟩
  case supply => exact ⟨hback 3 (by decide), hback 4 (by decide)⟩
  case warm =>
    intro k hk
    have := hback (5 + k) (by omega)
    rw [cabinetBack_warm s hk, getD_warmWords s hk] at this
    rwa [show 24 + (5 + k) + 1 = 30 + k by omega] at this
  case queue => exact hlast 0 (by decide)
  case fault =>
    refine ⟨hlast 1 (by decide), (hlast 2 (by decide)).trans (congrArg (BitVec.ofNat 16) ?_)⟩
    show s.intake.faultReason.code = _
    cases s.intake.faultReason <;> rfl
  case levels => exact ⟨hlast 3 (by decide), hlast 4 (by decide)⟩
  case unused =>
    intro k hk hk'
    have := (h (42 + (k - 43)) (by omega)).trans (cabinetWords_unused s (by omega))
    rwa [show 42 + (k - 43) + 1 = k by omega] at this

/-! ### The start and the end of a page's update (R13, R14, R80) -/

/-- A command that changes no field that a page shows adds no mark (R14). -/
theorem remarkPages_unshown {old new : State} (hsrc : ∀ src, new.sourceShown src = old.sourceShown src)
    (hcab : new.cabinetShown = old.cabinetShown) : remarkPages old new = new.pages := by
  simp only [remarkPages, hsrc, hcab, ne_eq, not_true_eq_false, decide_false, Page.markIf, Bool.or_false]
  rfl

/-- The words of the window, the marks, the records and the NOTICE register are shown on no page outside the measurement
fields. -/
theorem sourceShown_frame (s : State) (w : Window) (n : Intake) (p : Pages) (u : Sync) (src : Source) :
    ({ s with window := w, intake := n, pages := p, sync := u } : State).sourceShown src = s.sourceShown src := by
  cases src <;> rfl

theorem cabinetShown_frame (s : State) (w : Window) (x : Word) (p : Pages) (u : Sync) :
    ({ s with window := w, intake := { s.intake with notice := x }, pages := p, sync := u } : State).cabinetShown =
      s.cabinetShown := rfl

/-- Noting a page reads and changes the records alone (R80). -/
theorem notePage_frame (s : State) (id : PageId) (w : Window) (p : Pages) :
    ({ s with window := w, pages := p } : State).notePage id =
      { s with window := w, pages := p, sync := (s.notePage id).sync } := by
  cases id <;> rfl

theorem pageStart_due {s : State} {id : PageId} (hm : (s.pages.get id).mark = true)
    (hc : (s.pages.get id).count.getLsbD 0 = false) : s.pageStart id = { s with
      window := s.window.writeAll (pageBase id) (((s.pages.get id).count + 1) :: s.pageWords id),
      pages := s.pages.set id { count := (s.pages.get id).count + 1, mark := false }, sync := (s.notePage id).sync } := by
  have hd : (s.pages.get id).due = true := by rw [Page.due, hm, hc]; rfl
  unfold State.pageStart
  rw [if_pos hd]
  exact notePage_frame s id _ _

theorem pageEnd_due {s : State} {id : PageId} (hc : (s.pages.get id).count.getLsbD 0 = true) : s.pageEnd id = { s with
    window := s.window.writeAll (pageBase id) [(s.pages.get id).count + 1],
    intake := { s.intake with notice := s.intake.notice ||| (1#16 <<< pageNotice id) },
    pages := s.pages.set id { s.pages.get id with count := (s.pages.get id).count + 1 } } := by
  unfold State.pageEnd
  rw [if_pos hc]
  rfl

/-- PAGE_UPDATE_START of a page that is due answers its effect: what it changes is shown on no page. -/
theorem exec_pageUpdateStart {s : State} {id : PageId} (hm : (s.pages.get id).mark = true)
    (hc : (s.pages.get id).count.getLsbD 0 = false) : exec (.pageUpdateStart id) s = .next { s with
      window := s.window.writeAll (pageBase id) (((s.pages.get id).count + 1) :: s.pageWords id),
      pages := s.pages.set id { count := (s.pages.get id).count + 1, mark := false }, sync := (s.notePage id).sync } := by
  refine (congrArg (finish s) (pageStart_due hm hc)).trans ?_
  rw [finish_eq, remarkPages_unshown (fun src => sourceShown_frame s _ s.intake _ _ src)
    (cabinetShown_frame s _ s.intake.notice _ _)]

theorem exec_pageUpdateEnd {s : State} {id : PageId} (hc : (s.pages.get id).count.getLsbD 0 = true) :
    exec (.pageUpdateEnd id) s = .next { s with
      window := s.window.writeAll (pageBase id) [(s.pages.get id).count + 1],
      intake := { s.intake with notice := s.intake.notice ||| (1#16 <<< pageNotice id) },
      pages := s.pages.set id { s.pages.get id with count := (s.pages.get id).count + 1 } } := by
  refine (congrArg (finish s) (pageEnd_due hc)).trans ?_
  rw [finish_eq, remarkPages_unshown (fun src => sourceShown_frame s _ _ _ s.sync src)
    (cabinetShown_frame s _ _ _ s.sync)]

theorem Pages.get_set_other (p : Pages) {id other : PageId} (h : other ≠ id) (q : Page) :
    (p.set id q).get other = p.get other := by rw [Pages.get_set, if_neg h]

/-- The words of a page's update as it begins: the count, and the page's words (R13). -/
theorem read_page {s t : State} {id : PageId} {x : Word} (hw : s.window.wf = true)
    (ht : t.window = s.window.writeAll (pageBase id) (x :: s.pageWords id)) :
    t.readMem (pageBase id) = x ∧ HoldsPage s t id := by
  have hb := pageBase_bound id
  have hread (k : Nat) (hk : k < 64) : t.readMem (pageBase id + k) = (x :: s.pageWords id).getD k 0 := by
    rw [State.readMem, ht]
    exact Window.read_writeAll (by simp only [List.length_cons, pageWords_length, Config.registerBase]; omega) hw
      (by simpa using hk)
  refine ⟨hread 0 (by decide), fun k hk => ?_⟩
  rw [State.pageWord, hread (k + 1) (by omega), List.getD_cons_succ]

/-- Settles O19: the start writes the whole page, which then shows what its owners hold; the end writes the count. -/
theorem pageUpdateWrites : Obligations.PageUpdateWrites := by
  intro s id hw
  have hb := pageBase_bound id
  refine ⟨fun hm hc => ?_, fun hc => ?_⟩
  · have he := exec_pageUpdateStart hm hc
    generalize ht : ({ s with
      window := s.window.writeAll (pageBase id) (((s.pages.get id).count + 1) :: s.pageWords id),
      pages := s.pages.set id { count := (s.pages.get id).count + 1, mark := false },
      sync := (s.notePage id).sync } : State) = t at he
    obtain ⟨hcount, hholds⟩ := read_page (s := s) (t := t) hw (by rw [← ht])
    refine ⟨t, he, ?_, hcount, fun k hk => ?_, fun a ha => ?_, fun other ho => ?_, ?_, ?_, ?_, ?_, ?_⟩
    · rw [← ht]; exact Pages.get_set_same s.pages id _
    · rw [← hholds k hk, State.pageWord, Nat.add_assoc, Nat.add_comm 1 k]
    · rw [← ht]; exact Window.read_writeAll_other (by simpa using ha)
    · rw [← ht]; exact Pages.get_set_other _ ho _
    · rintro i rfl
      exact showsSlot_of_holds hholds
    · rintro rfl
      exact showsMenu_of_holds hholds
    · rintro rfl
      exact showsCabinet_of_holds hholds
    · rw [← ht]; cases id <;> rfl
    · rw [← ht]
  · refine ⟨_, exec_pageUpdateEnd hc, Pages.get_set_same s.pages id _, ?_, fun a ha => ?_, rfl,
      fun other ho => Pages.get_set_other _ ho _, rfl⟩
    · exact Window.read_writeAll (k := 0) (by simp only [List.length_singleton, Config.registerBase]; omega) hw (by simp)
    · exact Window.read_writeAll_other (by simp only [List.length_singleton]; omega)

end Sys2Proof.Machine
end

section
namespace Sys2Proof.Machine

/-! ### The end of a soft restart (R17, R49, R50, R63) -/

/-- A write outside the descriptor bytes has no descriptor effect (R60). -/
theorem writeEffect_outside {q : BusRequest} (h : 32 ≤ q.addr) (s : State) : s.writeEffect q = (s, 0) := by
  have ht : q.touchesDescriptor = false := by simpa [BusRequest.touchesDescriptor] using h
  simp [State.writeEffect, ht]

/-- A write outside the descriptor bytes, stopped after a data byte, begins its recovery interval (R50). -/
theorem stopWrite_outside {q : BusRequest} (h : 32 ≤ q.addr) (s : State) :
    (s.stopWrite q).1 = { s.dequeue with bus.recovery := some (q.slot, s.sync.mtick + 240000) } := by
  rw [State.stopWrite, writeEffect_outside h]
  rfl

/-- The end of a soft restart marks every page and changes no count (R17). -/
theorem endRestart_page (s : State) (id : PageId) :
    s.endRestart.pages.get id = ⟨(s.pages.get id).count, true⟩ := by
  cases id <;> simp [State.endRestart, State.markAll, Pages.get, Page.marked]

theorem finish_endRestart_page (old s : State) (id : PageId) :
    (remarkPages old s.endRestart).get id = ⟨(s.pages.get id).count, true⟩ := by
  have hp := endRestart_page s id
  have hc := remarkPages_count old s.endRestart id
  have hm := remarkPages_keeps old s.endRestart id (by rw [hp])
  rw [hp] at hc
  generalize (remarkPages old s.endRestart).get id = p at hc hm
  cases p
  simp_all

/-- A soft restart that ends in a state `m`, which differs from `s` in the bus and in marks alone. -/
theorem restart_ends (old : State) {s m : State} {b : Bus} (hm : m = { s with bus := b, pages := m.pages })
    (hcount : ∀ id, (m.pages.get id).count = (s.pages.get id).count) :
    ∃ t, finish old m.endRestart = .next t ∧ t.bus = b ∧ t.intake = { s.intake with restarting := false } ∧
      t.router = { s.router with restartHold := false }.resetStates ∧
      (∀ id, t.pages.get id = ⟨(s.pages.get id).count, true⟩) ∧
      t = { s with intake := t.intake, bus := t.bus, pages := t.pages, router := t.router } := by
  refine ⟨_, rfl, ?_, ?_, ?_, fun id => ?_, ?_⟩
  · show m.bus = b
    rw [hm]
  · show ({ m.intake with restarting := false } : Intake) = _
    rw [hm]
  · show ({ m.router with restartHold := false } : Router).resetStates = _
    rw [hm]
  · exact (finish_endRestart_page old m id).trans (by rw [hcount])
  · generalize m.pages = p at hm
    subst hm
    rfl

theorem dequeue_count (s : State) (id : PageId) : (s.dequeue.pages.get id).count = (s.pages.get id).count :=
  mark_count s .cabinet id

/-- The stopped transaction leaves the queue, a write that had sent a data byte with its recovery interval (R50, R63). -/
theorem stopTransaction_between {s : State} {q : BusRequest} {rest : List BusRequest} (hq : s.bus.queue = q :: rest)
    (hp : ∀ n due, s.bus.phase ≠ .polling n due) (ho : q.kind = .read ∨ 32 ≤ q.addr) (b : Bool) :
    s.stopTransaction b = { s.dequeue with bus.recovery :=
      if q.kind = .write ∧ b = true then some (q.slot, s.sync.mtick + 240000) else s.bus.recovery } := by
  have hstop : s.stopTransaction b =
      if q.kind = .write ∧ b = true then (s.stopWrite q).1 else s.dequeue := by
    unfold State.stopTransaction
    rw [hq]
    cases hph : s.bus.phase with
    | polling n due => exact absurd hph (hp n due)
    | idle => rfl
    | reading => rfl
    | writing => rfl
  rw [hstop]
  split
  case isTrue hw =>
    have haddr : 32 ≤ q.addr := ho.resolve_left fun hr => absurd (hr.symm.trans hw.1) (by decide)
    rw [stopWrite_outside haddr]
  case isFalse => rfl

/-- The end of the poll that a soft restart found in progress (R49, R50; assumption 29). -/
theorem stopPolling_outside {q : BusRequest} (h : 32 ≤ q.addr) (s : State) (n : Nat) (a : Bool) :
    s.stopPolling q n a = { s.dequeue with bus.recovery :=
      if a = true ∨ 9 ≤ n then s.bus.recovery else some (q.slot, s.sync.mtick + 240000) } := by
  unfold State.stopPolling
  by_cases hc : a = true ∨ 9 ≤ n
  · have hb : (a || decide (Config.pollLimit ≤ n + 1)) = true := by
      simpa [Config.pollLimit] using hc
    rw [if_pos hb, if_pos hc, writeEffect_outside h]
    rfl
  · have hb : ¬ (a || decide (Config.pollLimit ≤ n + 1)) = true := by
      simpa [Config.pollLimit] using hc
    rw [if_neg hb, if_neg hc, stopWrite_outside h]

/-- The counter does not run back to an instant that it has reached (assumption 9). -/
theorem advanceTo_reached {s : State} {due : Stamp} (h : (s.sync.mtick - due).toNat < 0x80000000) :
    s.advanceTo due = s := by
  unfold State.advanceTo
  split
  case isTrue hr =>
    have hr : (due - s.sync.mtick).toNat < 0x80000000 := of_decide_eq_true hr
    have hd : due = s.sync.mtick := by bv_omega
    rw [hd]
  case isFalse => rfl

/-- Each command that can stand for the end of the poll for which a soft restart waits ends the write and the restart. -/
theorem exec_pollEnd {s : State} {q : BusRequest} {rest : List BusRequest} {n : Nat} {due : Stamp} {a : Bool}
    (hr : s.intake.restarting = true) (hs : s.bus.stopping = true) (hq : s.bus.queue = q :: rest)
    (hp : s.bus.phase = .polling n due) (hdue : (s.sync.mtick - due).toNat < 0x80000000) {command : Instr}
    (hc : command = .ackPoll a ∨ a = false ∧ (∃ b, command = .softRestartEnd b) ∨
      a = false ∧ 9 ≤ n ∧ command = .writeTimeout) :
    exec command s = finish s (s.stopPolling q n a).endRestart := by
  have hpoll (b : Bool) : s.poll b = (s.stopPolling q n b).endRestart := by
    have hserve : s.serving = some q := by simp [State.serving, hp, hq]
    simp only [State.poll, hserve, hp, hs, if_true, advanceTo_reached hdue, State.polledAtRestart, hr]
  rcases hc with rfl | ⟨rfl, b, rfl⟩ | ⟨rfl, hn, rfl⟩
  · exact congrArg (finish s) (hpoll a)
  · refine congrArg (finish s) ?_
    simp only [State.busStopped, hr, hs, if_true, State.stopTransaction, hq, hp]
  · refine congrArg (finish s) ?_
    have hlimit : ¬ n + 1 < Config.pollLimit := by simp only [Config.pollLimit]; omega
    simp only [State.pollTimeout, hp, hlimit, if_false, hpoll]

end Sys2Proof.Machine
end

section
namespace Sys2Proof.Machine

/-! ### What a soft restart leaves alone (R16, R46, R125, R158) -/

/-- The power-up of a slot after its POWER job has left it (R32, R46). -/
def SlotRec.dropJob (r : SlotRec) : SlotRec :=
  { r with powerUp := r.powerUp.bind fun p =>
      if r.state.beforeCheck then { p with job := none }.pruned else some { p with job := none } }

theorem withdrawJob_slot (s : State) (i j : Slot) :
    (s.withdrawJob i).slot j = if j = i then (s.slot j).dropJob else s.slot j := by
  refine (PerSlot.get_set ..).trans ?_
  split
  case isTrue h => rw [h]; rfl
  case isFalse => rfl

theorem withdrawJobs_eq (is : List Slot) (s : State) :
    is.foldl State.withdrawJob s = { s with slots := (is.foldl State.withdrawJob s).slots } := by
  induction is generalizing s with
  | nil => rfl
  | cons i is ih => exact ih (s.withdrawJob i)

theorem withdrawJobs_slot {is : List Slot} (hn : is.Nodup) (s : State) (j : Slot) :
    (is.foldl State.withdrawJob s).slot j = if j ∈ is then (s.slot j).dropJob else s.slot j := by
  induction is generalizing s with
  | nil => rfl
  | cons i is ih =>
    obtain ⟨hi, hn⟩ := List.nodup_cons.1 hn
    rw [List.foldl_cons, ih hn, withdrawJob_slot]
    by_cases hj : j = i
    · subst hj; simp [hi]
    · simp [hj]

theorem dropPowerJobs_eq (s : State) : s.dropPowerJobs = { s with slots := s.dropPowerJobs.slots } :=
  withdrawJobs_eq _ s

theorem dropPowerJobs_slot (s : State) (i : Slot) : s.dropPowerJobs.slot i = (s.slot i).dropJob :=
  (withdrawJobs_slot (by decide) s i).trans (if_pos (by cases i <;> decide))

/-- Pruning changes no requester. -/
theorem pruned_job {p q : PowerUp} (h : p.pruned = some q) : q.job = p.job := by
  unfold PowerUp.pruned at h
  split at h
  · cases h
  · cases h; rfl

theorem dropJob_jobCell (r : SlotRec) : r.dropJob.jobCell = none := by
  unfold SlotRec.jobCell SlotRec.dropJob
  cases r.powerUp with
  | none => rfl
  | some p =>
    cases r.state.beforeCheck with
    | false => rfl
    | true =>
      simp only [Option.bind_some, if_true]
      cases hq : ({ p with job := none } : PowerUp).pruned with
      | none => rfl
      | some q => simp [pruned_job hq]

/-- A slot from whose power-up the controller has withdrawn (R32). -/
def SlotRec.dropHandOver (r : SlotRec) : SlotRec :=
  { r with powerUp := r.powerUp.bind fun p => { p with handOver := none }.pruned }

theorem dropHandOver_jobCell {r : SlotRec} (h : r.jobCell = none) : r.dropHandOver.jobCell = none := by
  unfold SlotRec.jobCell SlotRec.dropHandOver at *
  cases hp : r.powerUp with
  | none => rfl
  | some p =>
    simp only [Option.bind_some]
    cases hq : ({ p with handOver := none } : PowerUp).pruned with
    | none => rfl
    | some q => simpa [hp, pruned_job hq] using h

theorem withdrawTarget_slot (s : State) (i : Slot) : s.withdrawTarget.slot i =
    if (s.slot i).state.beforeCheck = true ∧ s.ho.target = some (.slot i) then (s.slot i).dropHandOver
    else s.slot i := by
  unfold State.withdrawTarget
  split
  case h_1 j ht =>
    unfold State.withdrawHandOver
    by_cases hij : i = j
    · subst hij
      by_cases hb : (s.slot i).state.beforeCheck = true
      · rw [if_pos hb, if_pos ⟨hb, ht⟩]
        exact PerSlot.get_set_same ..
      · rw [if_neg hb, if_neg fun h => hb h.1]
    · have hne : s.ho.target ≠ some (.slot i) := by
        rw [ht]
        exact fun h => hij (by cases h; rfl)
      simp only [hne, and_false, if_false]
      split
      · exact PerSlot.get_set_other _ hij _
      · rfl
  case h_2 ht => rw [if_neg fun h => ht i h.2]

theorem withdrawTarget_eq (s : State) : s.withdrawTarget = { s with slots := s.withdrawTarget.slots } := by
  unfold State.withdrawTarget
  split
  · unfold State.withdrawHandOver
    split <;> rfl
  · rfl

/-- The parts of the state that the controller does not touch at a soft restart. -/
def State.beside (s : State) :=
  (s.pending, s.window, s.intake, s.warm, s.budget, s.bus, s.sync, s.pins, s.ho.waiting,
    (s.router.maps, s.router.pendingMaps, s.router.restartHold, s.router.chordTimer, s.router.chordLatch), s.credit.setup)

/-- `t` is come from `s` by what a soft restart has the controller do: the slots but for their power-ups' requesters and
the pages' counts stand, with no job anywhere. -/
structure Spares (s t : State) : Prop where
  beside : t.beside = s.beside
  slot : ∀ i, t.slot i = { s.slot i with powerUp := (t.slot i).powerUp }
  jobs : ∀ i, (t.slot i).jobCell = none
  count : ∀ id, (t.pages.get id).count = (s.pages.get id).count
  active : t.ho.active = none
  freeze : t.router.chordFreeze = false

section
variable {s t u : State}

theorem Spares.congr (h : Spares s t) (e : (u.beside, u.slots, u.pages) = (t.beside, t.slots, t.pages))
    (ha : u.ho.active = none) (hf : u.router.chordFreeze = false) : Spares s u := by
  have hb : u.beside = t.beside := congrArg Prod.fst e
  have hs : u.slots = t.slots := congrArg (fun x => x.2.1) e
  have hp : u.pages = t.pages := congrArg (fun x => x.2.2) e
  have hslot (i : Slot) : u.slot i = t.slot i := congrArg (fun x => x.get i) hs
  exact {
    beside := hb.trans h.beside
    slot := fun i => by rw [hslot]; exact h.slot i
    jobs := fun i => by rw [hslot]; exact h.jobs i
    count := fun id => by rw [hp]; exact h.count id
    active := ha
    freeze := hf }

theorem Spares.mark (h : Spares s t) (id : PageId) : Spares s (t.mark id) where
  beside := h.beside
  slot := h.slot
  jobs := h.jobs
  count other := (mark_count t id other).trans (h.count other)
  active := h.active
  freeze := h.freeze

theorem Spares.retarget (h : Spares s t) : Spares s t.retarget := h.congr (by rfl) h.active h.freeze

theorem Spares.crossover (h : Spares s t) : Spares s t.crossover := by
  unfold State.crossover
  split
  · exact h.congr (by rfl) h.active h.freeze
  · exact h

theorem Spares.recomputeAudio (h : Spares s t) : Spares s t.recomputeAudio := h.retarget.crossover

theorem Spares.muteAndLeave (h : Spares s t) : Spares s t.muteAndLeave :=
  have hl : Spares s { t with audio.current := 0, audio.wanted := none } := h.congr (by rfl) h.active h.freeze
  hl.recomputeAudio

theorem Spares.withdrawTarget (h : Spares s t) : Spares s t.withdrawTarget := by
  have heq := withdrawTarget_eq t
  refine ⟨?_, fun i => ?_, fun i => ?_, ?_, ?_, ?_⟩
  · rw [heq]; exact h.beside
  · rw [withdrawTarget_slot]
    split
    · rw [h.slot i]; rfl
    · exact h.slot i
  · rw [withdrawTarget_slot]
    split
    · exact dropHandOver_jobCell (h.jobs i)
    · exact h.jobs i
  · rw [heq]; exact h.count
  · rw [heq]; exact h.active
  · rw [heq]; exact h.freeze

theorem Spares.setPhase (h : Spares s t) (p : Phase) : Spares s (t.setPhase p) := by
  unfold State.setPhase
  split
  · exact h.congr (by rfl) h.active h.freeze
  · exact (h.mark .cabinet).congr (by rfl) h.active h.freeze

theorem completeActive_none (h : t.ho.active = none) (r : Result) (d : Nat) (data : SwitchJob → List Nat) :
    t.completeActive r d data = t := by
  rw [State.completeActive, h]

theorem completeActiveOk_none (h : t.ho.active = none) : t.completeActiveOk = t := by
  unfold State.completeActiveOk
  split <;> exact completeActive_none h ..

theorem Spares.judgeMenu (h : Spares s t) : Spares s t.judgeMenu := by
  unfold State.judgeMenu
  split
  · exact h.setPhase _
  · exact h

theorem Spares.fallback (h : Spares s t) (reason : FailReason) : Spares s (t.fallback reason) := by
  have hk : Spares s { t with
      ho.kind := .fallback, ho.target := some .menu, ho.lastFallback := reason, ho.cutFeed := false, ho.carry := 0,
      ho.active := none } := h.congr (by rfl) rfl h.freeze
  exact (hk.setPhase .waitTarget).judgeMenu

theorem Spares.failToFallback (h : Spares s t) (reason : FailReason) : Spares s (t.failToFallback reason) := by
  rw [State.failToFallback, completeActive_none h.active]
  exact h.withdrawTarget.fallback reason

theorem Spares.judge (h : Spares s t) : Spares s t.judge := by
  unfold State.judge
  split
  case isTrue =>
    split
    · exact h.judgeMenu
    · split
      · split
        · exact h.setPhase _
        · exact h.failToFallback _
      · exact h
    · exact h
  case isFalse => exact h

theorem Spares.holdNow (h : Spares s t) : Spares s t.holdNow := h.congr (by rfl) h.active h.freeze

theorem Spares.lossStart (h : Spares s t) : Spares s t.lossStart := by
  have hn : Spares s { t.holdNow with ho.onAir := none, router := t.router.driveNone } :=
    h.congr (by rfl) h.active rfl
  exact (hn.setPhase .waitTarget).muteAndLeave

theorem Spares.recordFeed (h : Spares s t) (src : Source) : Spares s (t.recordFeed src) := by
  cases src <;> exact h.congr (by rfl) h.active h.freeze

theorem Spares.startRecovery (h : Spares s t) (src : Source) : Spares s (t.startRecovery src) := by
  have hl := (h.recordFeed src).lossStart
  exact (hl.congr (by rfl) rfl hl.freeze : Spares s { (t.recordFeed src).lossStart with
    ho.kind := .recovery, ho.outgoing := some src, ho.target := some src, ho.active := none, ho.frames := 0,
    ho.rough := false, ho.cutFeed := (t.recordFeed src).lossStart.ho.outgoingFeed, ho.carry := 0,
    ho.cancelled := false }).judge

theorem Spares.toQuiet (h : Spares s t) : Spares s t.toQuiet := by
  have hk : Spares s { t with
      ho.kind := .none, ho.outgoing := none, ho.target := none, ho.frames := 0,
      ho.rough := false, ho.cold := false, ho.fromHold := false, ho.cancelled := false, ho.releaseTimer := none } :=
    h.congr (by rfl) h.active h.freeze
  exact hk.setPhase .quiet

theorem Spares.returnToQuiet (h : Spares s t) : Spares s t.returnToQuiet := by
  unfold State.returnToQuiet
  split
  · exact h.toQuiet.startRecovery _
  · exact h.toQuiet

theorem Spares.fadeInEnd (h : Spares s t) : Spares s t.fadeInEnd := by
  rw [State.fadeInEnd, completeActiveOk_none h.active]
  exact h.returnToQuiet

theorem Spares.enterRelease (h : Spares s t) : Spares s t.enterRelease :=
  have hp := h.setPhase .release
  hp.congr (by rfl) hp.active hp.freeze

theorem Spares.levelAnnounced (h : Spares s t) : Spares s t.levelAnnounced := by
  unfold State.levelAnnounced
  split
  case isTrue =>
    split
    · split
      · exact h.enterRelease
      · exact h
    · exact h.fadeInEnd
    · exact h
  case isFalse => exact h

theorem Spares.reopenFeed (h : Spares s t) (src : Source) : Spares s (t.reopenFeed src) := by
  unfold State.reopenFeed
  split
  · split
    · exact h.congr (by rfl) h.active h.freeze
    · exact h
  · exact h

theorem Spares.driveSource (h : Spares s t) (src : Source) : Spares s { t with router := t.router.driveSource src } := by
  cases src with
  | menu => exact h.congr (by rfl) h.active rfl
  | slot i => exact h.congr (by rfl) h.active h.freeze

theorem Spares.cancel (h : Spares s t) : Spares s t.cancel := by
  unfold State.cancel
  split
  · exact h
  case h_2 src _ =>
    have hd := h.withdrawTarget.driveSource src
    have hu : Spares s { t.withdrawTarget with
        raster.releaseOrder := none, ho.releaseTimer := none,
        ho.target := some src, ho.outgoing := none, ho.kind := .requested, ho.cancelled := true,
        router := t.withdrawTarget.router.driveSource src } := hd.congr (by rfl) hd.active hd.freeze
    exact ((hu.setPhase .fadeIn).reopenFeed src).recomputeAudio.levelAnnounced

theorem Spares.restartHandOver (h : Spares s { t with ho.active := none, ho.waiting := none }) :
    Spares s t.restartHandOver := by
  unfold State.restartHandOver
  extract_lets u
  split
  · exact h.cancel
  · exact h.cancel
  · exact h.cancel
  · exact h.withdrawTarget.fallback _
  · exact h.withdrawTarget.fallback _
  · exact h.withdrawTarget.fallback _
  · exact h

end

/-- The state in which a soft restart finds the slots and the controller: the intake and the router restarted (R16,
R158). -/
def State.restarting (s : State) : State :=
  { s with intake := s.intake.restart, router := s.router.restart, ho.waiting := none }

/-- The state in which a soft restart finds the bus: its owners have dropped their jobs (R46, R125). -/
def State.jobsDropped (s : State) : State :=
  { s with intake := s.intake.restart, router := s.router.restart }.dropPowerJobs.restartHandOver

theorem jobsDropped_spares (s : State) : Spares s.restarting s.jobsDropped := by
  have heq := dropPowerJobs_eq { s with intake := s.intake.restart, router := s.router.restart }
  have hslot := dropPowerJobs_slot { s with intake := s.intake.restart, router := s.router.restart }
  unfold State.jobsDropped
  generalize State.dropPowerJobs _ = t at heq hslot
  refine Spares.restartHandOver ⟨?_, fun i => ?_, fun i => ?_, fun id => ?_, rfl, ?_⟩
  · rw [heq]; rfl
  · exact (hslot i).trans (congrArg (fun r : SlotRec => { s.slot i with powerUp := r.powerUp }) (hslot i)).symm
  · exact (congrArg SlotRec.jobCell (hslot i)).trans (dropJob_jobCell _)
  · rw [heq]; rfl
  · rw [heq]; rfl

end Sys2Proof.Machine
end

section
namespace Sys2Proof.Machine

/-! ### A soft restart on the bus (R16, R17, R63): what ends at once and what is waited for -/

theorem exec_softRestart {s : State} {v : Word} (hv : v.getLsbD 0 = true) (hr : s.intake.restarting = false) :
    exec (.softRestart v) s = finish s
      (if s.jobsDropped.restartBus.bus.stopping = true then s.jobsDropped.restartBus
        else s.jobsDropped.restartBus.endRestart) := by
  have hw : s.writeControl v = s.startRestart := by
    simp only [State.writeControl, hv, hr, Bool.not_false, Bool.and_self, if_true]
  exact congrArg (finish s) hw

theorem jobsDropped_intake (s : State) : s.jobsDropped.intake = s.intake.restart :=
  congrArg (fun x => x.2.2.1) (jobsDropped_spares s).beside

theorem jobsDropped_bus (s : State) : s.jobsDropped.bus = s.bus :=
  congrArg (fun x => x.2.2.2.2.2.1) (jobsDropped_spares s).beside

theorem jobsDropped_sync (s : State) : s.jobsDropped.sync = s.sync :=
  congrArg (fun x => x.2.2.2.2.2.2.1) (jobsDropped_spares s).beside

theorem jobsDropped_count (s : State) (id : PageId) :
    (s.jobsDropped.pages.get id).count = (s.pages.get id).count := (jobsDropped_spares s).count id

/-- Without a job transaction on the bus only the waiting requests are dropped (R63). -/
theorem restartBus_unserved {t : State}
    (h : t.bus.phase = .idle ∨ ∃ q rest, t.bus.queue = q :: rest ∧ q.isLoad = true) :
    t.restartBus = { t with bus.queue := keptRequests t.bus.queue } := by
  unfold State.restartBus
  split
  case h_1 => rfl
  case h_2 q hs =>
    have hl : q.isLoad = true := by
      rcases h with hi | ⟨p, rest, hq, hl⟩
      · simp [State.serving, hi] at hs
      · have hp : p = q := by
          unfold State.serving at hs
          rw [hq] at hs
          split at hs
          · cases hs
          all_goals exact Option.some.inj hs
        exact hp ▸ hl
    rw [if_pos hl]

/-- The job transaction that a soft restart finds on the bus. -/
theorem serving_of_busy {t : State} {q : BusRequest} {rest : List BusRequest} (hq : t.bus.queue = q :: rest)
    (hp : t.bus.phase ≠ .idle) : t.serving = some q := by
  unfold State.serving
  split
  · contradiction
  all_goals rw [hq]; rfl

/-- A READ or WRITE transaction in flight, or an acknowledge poll in progress, is waited for (R63). -/
theorem restartBus_waits {t : State} {q : BusRequest} {rest : List BusRequest} (hq : t.bus.queue = q :: rest)
    (hl : q.isLoad = false) (hp : t.bus.phase = .reading ∨ t.bus.phase = .writing ∨
      ∃ n due, t.bus.phase = .polling n due ∧ (t.sync.mtick - due).toNat < 0x80000000) :
    t.restartBus = { t with bus.queue := q :: keptRequests rest, bus.stopping := true } := by
  have hs : t.serving = some q := serving_of_busy hq (by
    rcases hp with h | h | ⟨n, due, h, _⟩ <;> rw [h] <;> exact BusPhase.noConfusion)
  simp only [State.restartBus, hs, hl, hq, List.tail_cons]
  rcases hp with h | h | ⟨n, due, h, hd⟩
  · simp [h]
  · simp [h]
  · have hr : reached due t.sync.mtick = true := decide_eq_true hd
    simp [h, hr]

/-- A write found between polls stops at once, its recovery interval begun (R50, R63; assumption 29). -/
theorem restartBus_between {t : State} {q : BusRequest} {rest : List BusRequest} {n : Nat} {due : Stamp}
    (hq : t.bus.queue = q :: rest) (hl : q.isLoad = false) (hp : t.bus.phase = .polling n due)
    (hd : 0x80000000 ≤ (t.sync.mtick - due).toNat) (ha : 32 ≤ q.addr) :
    t.restartBus = { t with
      pages := t.markCabinet.pages,
      bus := { t.bus with
        queue := keptRequests rest, phase := .idle, stopping := false,
        recovery := some (q.slot, t.sync.mtick + 240000) } } := by
  have hs : t.serving = some q := serving_of_busy hq (by rw [hp]; exact BusPhase.noConfusion)
  have hr : ¬ reached due t.sync.mtick = true := fun h => by
    have := of_decide_eq_true h
    unfold ticksFrom at this
    omega
  simp only [State.restartBus, hs, hl, hq, hp, hr, List.tail_cons, stopWrite_outside ha]
  rfl

/-- The cells and the intake list after a restart of the intake (R16). -/
theorem cell_restarted {s t : State} {b : Bool} (h : t.intake = { s.intake.restart with restarting := b }) (c : CellNo) :
    t.cell c = .free := by
  unfold State.cell
  rw [h]
  exact Vector.getElem_replicate ..

/-- A soft restart that finds nothing to wait for is over with its own command (R17). -/
theorem softRestart_over {s : State} {v : Word} {b : Bus} (hv : v.getLsbD 0 = true) (hr : s.intake.restarting = false)
    (hm : s.jobsDropped.restartBus = { s.jobsDropped with bus := b, pages := s.jobsDropped.restartBus.pages })
    (hcount : ∀ id, (s.jobsDropped.restartBus.pages.get id).count = (s.jobsDropped.pages.get id).count)
    (hb : b.stopping = false) :
    ∃ t, exec (.softRestart v) s = .next t ∧ t.bus = b ∧
      t.intake = { s.intake.restart with restarting := false } ∧
      t.router = { s.jobsDropped.router with restartHold := false }.resetStates ∧
      (∀ id, t.pages.get id = ⟨(s.pages.get id).count, true⟩) ∧
      t = { s.jobsDropped with intake := t.intake, bus := t.bus, pages := t.pages, router := t.router } := by
  obtain ⟨t, ht, hbus, hintake, hrouter, hpages, hframe⟩ := restart_ends s hm hcount
  have hstop : ¬ s.jobsDropped.restartBus.bus.stopping = true := by rw [hm]; simp [hb]
  refine ⟨t, ?_, hbus, ?_, hrouter, fun id => ?_, hframe⟩
  · rw [exec_softRestart hv hr, if_neg hstop, ht]
  · rw [hintake, jobsDropped_intake]
  · rw [hpages, jobsDropped_count]

/-- A soft restart waits for the job transaction on the bus (R17, R63). -/
theorem softRestart_waits {s : State} {v : Word} {q : BusRequest} {rest : List BusRequest} (hv : v.getLsbD 0 = true)
    (hr : s.intake.restarting = false) (hq : s.bus.queue = q :: rest) (hl : q.isLoad = false)
    (hp : s.bus.phase = .reading ∨ s.bus.phase = .writing ∨
      ∃ n due, s.bus.phase = .polling n due ∧ (s.sync.mtick - due).toNat < 0x80000000) :
    ∃ t, exec (.softRestart v) s = .next t ∧ t.intake = s.intake.restart ∧
      t.bus = { s.bus with queue := q :: keptRequests rest, stopping := true } := by
  have hbus := jobsDropped_bus s
  have hwait := restartBus_waits (t := s.jobsDropped) (by rw [hbus, hq]) hl (by rwa [hbus, jobsDropped_sync])
  have hexec := exec_softRestart hv hr
  rw [hwait, if_pos rfl] at hexec
  refine ⟨_, hexec, jobsDropped_intake s, ?_⟩
  show ({ s.jobsDropped.bus with queue := q :: keptRequests rest, stopping := true } : Bus) = _
  rw [hbus]

/-- SOFT_RESTART_END ends the transaction for which a soft restart waits, and the restart (R17). -/
theorem exec_softRestartEnd {s : State} (hr : s.intake.restarting = true) (hs : s.bus.stopping = true) (b : Bool) :
    exec (.softRestartEnd b) s = finish s (s.stopTransaction b).endRestart := by
  have hb : s.busStopped b = (s.stopTransaction b).endRestart := by
    simp only [State.busStopped, hr, hs, if_true]
  exact congrArg (finish s) hb

/-- Settles O18: the two ends are each the stop of the transaction followed by the end of the restart. -/
theorem softRestartWaitsForBus : Obligations.SoftRestartWaitsForBus := by
  refine ⟨?_, ?_, ?_⟩
  · intro s v q rest hv hr hq hl hp
    obtain ⟨t, ht, hintake, hbus⟩ := softRestart_waits hv hr hq hl hp
    refine ⟨t, ht, ?_, by rw [hbus], by rw [hbus], by rw [hbus], cell_restarted hintake, by rw [hintake]; rfl⟩
    rw [State.readRegister, hintake]
    rfl
  · intro s b q rest hr hs hq hp ho
    have hm := stopTransaction_between hq hp ho b
    have hbeside : s.stopTransaction b = { s with
        bus := (s.stopTransaction b).bus, pages := (s.stopTransaction b).pages } := by
      rw [hm]; rfl
    obtain ⟨t, ht, hbus, hintake, hrouter, hpages, hframe⟩ := restart_ends s hbeside fun id => by
      rw [hm]; exact dequeue_count s id
    rw [hm] at hbus
    refine ⟨t, (exec_softRestartEnd hr hs b).trans ht, ?_, ?_, ?_, ?_, ?_, hintake, ?_, hpages, hframe⟩
    · rw [State.readRegister, hintake]; rfl
    · rw [hbus]; exact congrArg List.tail hq
    · rw [hbus]; rfl
    · rw [hbus]; rfl
    · rw [hbus]
    · rw [hrouter]; rfl
  · intro s q rest n due a hr hs hq hp hd ha command hc
    have hm := stopPolling_outside ha s n a
    have hbeside : s.stopPolling q n a = { s with
        bus := (s.stopPolling q n a).bus, pages := (s.stopPolling q n a).pages } := by
      rw [hm]; rfl
    obtain ⟨t, ht, hbus, hintake, hrouter, hpages, hframe⟩ := restart_ends s hbeside fun id => by
      rw [hm]; exact dequeue_count s id
    refine ⟨t, (exec_pollEnd hr hs hq hp hd hc).trans ht, ?_, ?_, hintake, ?_, hpages, hframe⟩
    · rw [State.readRegister, hintake]; rfl
    · rw [hbus, hm]
      exact congrArg (fun l => ({ s.bus with
        queue := l.tail, phase := .idle, stopping := false,
        recovery := if a = true ∨ 9 ≤ n then s.bus.recovery else some (q.slot, s.sync.mtick + 240000) } : Bus)) hq
    · rw [hrouter]; rfl

end Sys2Proof.Machine
end

section
namespace Sys2Proof.Machine

/-! ### The hand-over in flight at a soft restart (R115, R121, R125) -/

theorem setPhase_marks (t : State) (p : Phase) : ∃ pages, t.setPhase p = { t with
    pages := pages, ho.phase := p, raster.cutArm := if p = .align then t.raster.cutArm else none } := by
  unfold State.setPhase
  split <;> exact ⟨_, rfl⟩

/-- A FALLBACK between release and cut goes to GLIDE at once when source 0 is stable (R108, R109, R121). -/
theorem fallback_marks (t : State) (reason : FailReason) : ∃ pages, t.fallback reason = { t with
    pages := pages,
    ho := { t.ho with
      phase := if (t.record .menu).stable then .glide else .waitTarget, kind := .fallback, target := some .menu,
      lastFallback := reason, cutFeed := false, carry := 0, active := none },
    raster.cutArm := none } := by
  obtain ⟨p, hp⟩ := setPhase_marks { t with
    ho.kind := .fallback, ho.target := some .menu, ho.lastFallback := reason, ho.cutFeed := false, ho.carry := 0,
    ho.active := none } .waitTarget
  unfold State.fallback
  rw [hp]
  by_cases hs : (t.record .menu).stable = true
  · obtain ⟨q, hq⟩ := setPhase_marks _ .glide
    exact ⟨q, (if_pos hs).trans (hq.trans (by rw [if_pos hs]; rfl))⟩
  · exact ⟨p, (if_neg hs).trans (by rw [if_neg hs]; rfl)⟩

/-- The credit after the feed of a source given back is reopened (R115, R165). -/
def Credit.givenBack (c : Credit) (src : Source) (openFeed : Bool) : Credit :=
  match src with
  | .menu => c
  | .slot i => if openFeed then { c with feed := c.feed.set i true } else c

theorem reopenFeed_eq (t : State) (src : Source) :
    t.reopenFeed src = { t with credit := t.credit.givenBack src t.ho.outgoingFeed } := by
  cases src with
  | menu => rfl
  | slot i =>
    simp only [State.reopenFeed, Credit.givenBack]
    split <;> rfl

/-- The source on air, seen and heard, fades in to its own level from where the sound stands (R178 to R180). -/
theorem fadesIn_heard {t : State} {src : Source} (h : HeardAt t src) (hp : t.ho.phase = .fadeIn) :
    t.recomputeAudio.levelAnnounced = { t with
      audio.target := levelFormula t.audio.master (t.audio.ratios.get src) t.audio.floor } := by
  have ht : t.audioTarget = levelFormula t.audio.master (t.audio.ratios.get src) t.audio.floor := by
    simp [State.audioTarget, h.wanted, h.crosspoint, hp]
  have hretarget : t.retarget = { t with
      audio.target := levelFormula t.audio.master (t.audio.ratios.get src) t.audio.floor } := by
    rw [State.retarget, if_neg h.ramp.ne', ht]
  have hstay : t.recomputeAudio = t.retarget := by
    rw [State.recomputeAudio, hretarget]
    exact if_neg fun hc => hc.1 (h.crosspoint.trans h.wanted.symm)
  rw [hstay, hretarget]
  exact if_neg h.level

/-- The cancel of a hand-over whose outgoing is heard at another level than its own (R115): the cabinet is given back, and
the sound fades in. -/
theorem cancel_heard {t : State} {src : Source} (ho : t.ho.outgoing = some src) (hh : HeardAt t src) :
    ∃ pages, t.cancel = { t with
      pages := pages, slots := t.withdrawTarget.slots,
      ho := { t.ho with
        phase := .fadeIn, outgoing := none, target := some src, kind := .requested, releaseTimer := none,
        cancelled := true },
      raster := { t.raster with releaseOrder := none, cutArm := none },
      router := t.router.driveSource src,
      audio := { t.audio with target := levelFormula t.audio.master (t.audio.ratios.get src) t.audio.floor },
      credit := t.credit.givenBack src t.ho.outgoingFeed } := by
  have hw := withdrawTarget_eq t
  unfold State.cancel
  rw [ho]
  generalize t.withdrawTarget = u at hw
  rw [hw]
  generalize u.slots = slots
  obtain ⟨p, hp⟩ := setPhase_marks { t with
    slots := slots, raster.releaseOrder := none, ho.releaseTimer := none, ho.target := some src, ho.outgoing := none,
    ho.kind := .requested, ho.cancelled := true, router := t.router.driveSource src } .fadeIn
  refine ⟨p, ?_⟩
  dsimp only at hp ⊢
  rw [hp, reopenFeed_eq]
  exact fadesIn_heard ⟨hh.wanted, hh.crosspoint, hh.ramp, hh.level⟩ rfl

/-! ### The owners' power-ups (R32, R46) -/

/-- The two withdrawals together: that of the slot's POWER job and that of the controller. -/
theorem leavesPowerUps_of {s t : State}
    (h : ∀ i, t.slot i = if (s.slot i).state.beforeCheck = true ∧ s.ho.target = some (.slot i)
      then (s.slot i).dropJob.dropHandOver else (s.slot i).dropJob) : LeavesPowerUps s t := by
  intro i
  rw [h i]
  unfold SlotRec.dropHandOver SlotRec.dropJob
  cases hp : (s.slot i).powerUp with
  | none => simp
  | some p =>
    by_cases hb : (s.slot i).state.beforeCheck = true
    · by_cases ht : s.ho.target = some (.slot i)
      · by_cases ha : p.auto = false
        · simp [hb, ht, ha, PowerUp.pruned]
        · simp [hb, ht, ha, PowerUp.pruned]
      · simp [hb, ht, PowerUp.pruned]
    · simp [hb]

end Sys2Proof.Machine
end

section
namespace Sys2Proof.Machine

/-! ### A soft restart that is over at once (R17, R125) -/

/-- Where the controller finds the hand-over that a soft restart leaves to go on (R125). -/
def HandOver.goesOn (h : HandOver) : Prop :=
  h.phase = .quiet ∨ h.phase = .fadeIn ∨ h.kind = .fallback ∨ h.kind = .recovery

theorem restartHandOver_stays {t : State} (h : t.ho.goesOn) :
    t.restartHandOver = { t with ho.active := none, ho.waiting := none } := by
  unfold State.restartHandOver HandOver.goesOn at *
  rcases h with h | h | h | h
  · simp only [h]
  · simp only [h]
  all_goals simp only [h]; cases t.ho.phase <;> rfl

theorem restartHandOver_cancels {t : State} (hk : t.ho.kind = .requested)
    (hp : t.ho.phase = .fadeOut ∨ t.ho.phase = .release) :
    t.restartHandOver = { t with ho.active := none, ho.waiting := none }.cancel := by
  unfold State.restartHandOver
  rcases hp with hp | hp <;> simp only [hk, hp]

theorem restartHandOver_falls {t : State} (hk : t.ho.kind = .requested) (hp : t.ho.phase.beforeCut = true) :
    t.restartHandOver = ({ t with ho.active := none, ho.waiting := none }.withdrawTarget).fallback .restart := by
  unfold State.restartHandOver
  cases hph : t.ho.phase <;> simp_all [Phase.beforeCut]

/-- A soft restart with the POWER jobs dropped, the hand-over not yet treated: `slots` are the slots without them. -/
def State.powerDropped (s : State) (slots : PerSlot SlotRec) : State :=
  { s with intake := s.intake.restart, router := s.router.restart, slots := slots }

theorem jobsDropped_of (s : State) : ∃ slots, (∀ i, slots.get i = (s.slot i).dropJob) ∧
    s.jobsDropped = (s.powerDropped slots).restartHandOver := by
  have hd := dropPowerJobs_eq { s with intake := s.intake.restart, router := s.router.restart }
  exact ⟨_, dropPowerJobs_slot { s with intake := s.intake.restart, router := s.router.restart },
    congrArg State.restartHandOver hd⟩

/-- What a soft restart of a hand-over that goes on leaves alone outside the controller (R125). -/
structure Undisturbed (s t : State) : Prop where
  raster : t.raster = s.raster
  audio : t.audio = s.audio
  credit : t.credit = s.credit
  driven : t.router.driven = s.router.driven

theorem jobsDropped_stays {s : State} (h : s.ho.goesOn) :
    s.jobsDropped.ho = { s.ho with active := none, waiting := none } ∧ Undisturbed s s.jobsDropped := by
  obtain ⟨slots, -, hs⟩ := jobsDropped_of s
  rw [hs, restartHandOver_stays (t := s.powerDropped slots) h]
  exact ⟨rfl, rfl, rfl, rfl, rfl⟩

/-- The slots after a withdrawal from the target, the POWER jobs dropped before. -/
theorem leavesPowerUps_withdrawTarget {s t u : State} (hu : ∀ i, u.slot i = (s.slot i).dropJob)
    (ht : u.ho.target = s.ho.target) (h : t.slots = u.withdrawTarget.slots) : LeavesPowerUps s t := by
  refine leavesPowerUps_of fun i => ?_
  have hslot : t.slot i = u.withdrawTarget.slot i := congrArg (fun x => x.get i) h
  rw [hslot, withdrawTarget_slot, hu i, ht]
  rfl

/-- A REQUESTED hand-over before release, its outgoing heard at another level than its own, is cancelled (R115, R125). -/
theorem jobsDropped_cancels {s : State} {src : Source} (hk : s.ho.kind = .requested)
    (hp : s.ho.phase = .fadeOut ∨ s.ho.phase = .release) (ho : s.ho.outgoing = some src) (hh : HeardAt s src) :
    s.jobsDropped.ho = { s.ho with
      phase := .fadeIn, outgoing := none, target := some src, active := none, waiting := none, releaseTimer := none,
      cancelled := true } ∧
    s.jobsDropped.raster = { s.raster with releaseOrder := none, cutArm := none } ∧
    s.jobsDropped.audio = { s.audio with
      target := levelFormula s.audio.master (s.audio.ratios.get src) s.audio.floor } ∧
    s.jobsDropped.credit = s.credit.givenBack src s.ho.outgoingFeed ∧
    s.jobsDropped.router = s.router.restart.driveSource src ∧ LeavesPowerUps s s.jobsDropped := by
  obtain ⟨slots, hslots, hs⟩ := jobsDropped_of s
  obtain ⟨pages, hc⟩ := cancel_heard (t := { s.powerDropped slots with ho.active := none, ho.waiting := none }) ho
    ⟨hh.wanted, hh.crosspoint, hh.ramp, hh.level⟩
  rw [hs, restartHandOver_cancels (t := s.powerDropped slots) hk hp, hc]
  refine ⟨?_, rfl, rfl, rfl, rfl, leavesPowerUps_withdrawTarget
    (u := { s.powerDropped slots with ho.active := none, ho.waiting := none }) hslots rfl rfl⟩
  simp only [State.powerDropped, hk]

/-- A REQUESTED hand-over between release and cut becomes a FALLBACK with reason RESTART (R121, R125). -/
theorem jobsDropped_falls {s : State} (hk : s.ho.kind = .requested) (hp : s.ho.phase.beforeCut = true) :
    s.jobsDropped.ho = { s.ho with
      phase := if (s.record .menu).stable then .glide else .waitTarget, kind := .fallback, target := some .menu,
      lastFallback := .restart, active := none, waiting := none, cutFeed := false, carry := 0 } ∧
    s.jobsDropped.raster = { s.raster with cutArm := none } ∧ s.jobsDropped.audio = s.audio ∧
    s.jobsDropped.credit = s.credit ∧ s.jobsDropped.router.driven = s.router.driven ∧
    LeavesPowerUps s s.jobsDropped := by
  obtain ⟨slots, hslots, hs⟩ := jobsDropped_of s
  have hw := withdrawTarget_eq { s.powerDropped slots with ho.active := none, ho.waiting := none }
  have hl {t : State} := leavesPowerUps_withdrawTarget (s := s) (t := t) (u := { s.powerDropped slots with
    ho.active := none, ho.waiting := none }) hslots rfl
  rw [hs, restartHandOver_falls (t := s.powerDropped slots) hk hp]
  dsimp only at hw hl ⊢
  generalize State.withdrawTarget _ = u at hw hl
  obtain ⟨pages, hf⟩ := fallback_marks u .restart
  rw [hf, hw]
  exact ⟨rfl, rfl, rfl, rfl, rfl, hl rfl⟩

/-- A soft restart with no job transaction on the bus (R17, R63). -/
theorem softRestart_unserved {s : State} {v : Word} (hv : v.getLsbD 0 = true) (hr : s.intake.restarting = false)
    (hidle : s.bus.phase = .idle ∨ ∃ q rest, s.bus.queue = q :: rest ∧ q.isLoad = true)
    (hs : s.bus.stopping = false) :
    ∃ t, exec (.softRestart v) s = .next t ∧ t.bus = { s.bus with queue := keptRequests s.bus.queue } ∧
      t.intake = { s.intake.restart with restarting := false } ∧
      t.router = { s.jobsDropped.router with restartHold := false }.resetStates ∧
      (∀ id, t.pages.get id = ⟨(s.pages.get id).count, true⟩) ∧
      t = { s.jobsDropped with intake := t.intake, bus := t.bus, pages := t.pages, router := t.router } := by
  have hbus := jobsDropped_bus s
  have hm := restartBus_unserved (t := s.jobsDropped) (by rwa [hbus])
  rw [hbus] at hm
  exact softRestart_over hv hr (by rw [hm]) (fun id => by rw [hm]) hs

theorem attn_masked {t : State} (hm : t.intake.mask = 0) : t.attn = false := by
  rw [← Bool.not_eq_true, attn_iff, hm]
  simp

/-- Settles O17: in all three clauses the restart is over with its command, and what it leaves is read off the drop of the
jobs. -/
theorem softRestartAtOnce : Obligations.SoftRestartAtOnce := by
  refine ⟨?_, ?_, ?_⟩
  · intro s v hv hr hidle hs
    obtain ⟨t, ht, hbus, hintake, hrouter, hpages, hframe⟩ := softRestart_unserved hv hr hidle hs
    have hspares := jobsDropped_spares s
    have hbeside := hspares.beside
    simp only [State.beside, Prod.mk.injEq] at hbeside
    obtain ⟨-, hwindow, -, hwarm, hbudget, -, hsync, -, hwaiting, hrouters, hsetup⟩ := hbeside
    obtain ⟨hmaps, hpending, -, htimer, hlatch⟩ := hrouters
    have hslot (i : Slot) : t.slot i = s.jobsDropped.slot i := by rw [hframe]; rfl
    refine ⟨t, ht, cell_restarted hintake, by rw [hintake]; rfl, by rw [hintake]; rfl, by rw [hintake]; rfl,
      by rw [hintake], by rw [hintake]; rfl, by rw [hintake]; rfl, attn_masked (by rw [hintake]; rfl), ?_, hpages,
      fun i => ⟨?_, ?_⟩, ?_, ?_, ?_, ?_, fun i => ?_, by rw [hrouter]; rfl, ?_, ?_, ?_, hbus, ?_, ?_, ?_⟩
    · exact (by rw [hframe] : t.window = s.jobsDropped.window).trans hwindow
    · rw [hslot]; exact hspares.slot i
    · rw [hslot]; exact hspares.jobs i
    · exact (by rw [hframe] : t.warm = s.jobsDropped.warm).trans hwarm
    · exact (by rw [hframe] : t.budget = s.jobsDropped.budget).trans hbudget
    · exact (by rw [hframe] : t.sync = s.jobsDropped.sync).trans hsync
    · rw [hrouter]; exact hmaps
    · have hnone : t.router.pendingMaps = PerSlot.const none := by rw [hrouter]; exact hpending
      rw [hnone, PerSlot.get_const]
    · rw [hrouter]; exact hspares.freeze
    · rw [hrouter]; exact htimer
    · rw [hrouter]; exact hlatch
    · exact (by rw [hframe] : t.credit.setup = s.jobsDropped.credit.setup).trans hsetup
    · exact (by rw [hframe] : t.ho.active = s.jobsDropped.ho.active).trans hspares.active
    · exact (by rw [hframe] : t.ho.waiting = s.jobsDropped.ho.waiting).trans hwaiting
  · intro s v n due q rest hv hr hp hd hs hq hl ha
    have hjobs := jobsDropped_bus s
    have hsync := jobsDropped_sync s
    have hm := restartBus_between (t := s.jobsDropped) (by rw [hjobs, hq]) hl (by rw [hjobs, hp]) (by rwa [hsync]) ha
    have hcount (id : PageId) : (s.jobsDropped.restartBus.pages.get id).count = (s.jobsDropped.pages.get id).count := by
      rw [hm]; exact mark_count _ .cabinet id
    have hbeside : s.jobsDropped.restartBus = { s.jobsDropped with
        bus := s.jobsDropped.restartBus.bus, pages := s.jobsDropped.restartBus.pages } := by rw [hm]
    obtain ⟨t, ht, hbus, hintake, -, hpages, -⟩ := softRestart_over hv hr hbeside hcount (by rw [hm])
    refine ⟨t, ht, by rw [State.readRegister, hintake]; rfl, cell_restarted hintake, by rw [hintake]; rfl, hpages, ?_⟩
    simp only [hbus, hm, hjobs, hsync, hs]
  · intro s v hv hr hidle hs
    obtain ⟨t, ht, -, -, hrouter, -, hframe⟩ := softRestart_unserved hv hr hidle hs
    have hho : t.ho = s.jobsDropped.ho := by rw [hframe]
    have hraster : t.raster = s.jobsDropped.raster := by rw [hframe]
    have haudio : t.audio = s.jobsDropped.audio := by rw [hframe]
    have hcredit : t.credit = s.jobsDropped.credit := by rw [hframe]
    have hdriven : t.router.driven = s.jobsDropped.router.driven := by rw [hrouter]; rfl
    have hslot (i : Slot) : t.slot i = s.jobsDropped.slot i := by rw [hframe]; rfl
    refine ⟨fun hgo => ?_, fun src hk hp _ hout hh => ?_, fun hk hp => ?_⟩
    · obtain ⟨jho, jraster, jaudio, jcredit, jdriven⟩ := jobsDropped_stays hgo
      exact ⟨t, ht, hho.trans jho, hraster.trans jraster, haudio.trans jaudio, hcredit.trans jcredit,
        hdriven.trans jdriven⟩
    · obtain ⟨jho, jraster, jaudio, jcredit, jrouter, jleaves⟩ := jobsDropped_cancels hk hp hout hh
      refine ⟨t, ht, hho.trans jho, hraster.trans jraster, haudio.trans jaudio, (hcredit.trans jcredit).trans ?_, ?_,
        fun i => (hslot i).trans (jleaves i)⟩
      · cases src <;> rfl
      · rw [hdriven, jrouter]
        cases src <;> rfl
    · obtain ⟨jho, jraster, jaudio, jcredit, jdriven, jleaves⟩ := jobsDropped_falls hk hp
      exact ⟨t, ht, hho.trans jho, hraster.trans jraster, haudio.trans jaudio, hcredit.trans jcredit,
        hdriven.trans jdriven, fun i => (hslot i).trans (jleaves i)⟩

end Sys2Proof.Machine
end

section
namespace Sys2Proof.Machine

/-! ### What the supply rests on: the operations that leave it alone (R37, R38, R52) -/

/-- The parts of the state that `SupplySound` speaks of. -/
structure Supply where
  warm : List Slot
  budget : Nat
  loads : List Slot
  copies : PerSlot (Option Descriptor)
  powered : Slot → Bool
  loading : Slot → Bool

def State.supply (s : State) : Supply where
  warm := s.warm
  budget := s.budget
  loads := s.loads
  copies := s.bus.copies
  powered i := (s.slot i).state.powered
  loading i := decide ((s.slot i).state = .loading)

section
variable {s t : State}

theorem powered_of_supply (e : t.supply = s.supply) (i : Slot) :
    (t.slot i).state.powered = (s.slot i).state.powered := congrFun (congrArg Supply.powered e) i

theorem loading_of_supply (e : t.supply = s.supply) (i : Slot) :
    (t.slot i).state = .loading ↔ (s.slot i).state = .loading :=
  decide_eq_decide.1 (congrFun (congrArg Supply.loading e) i)

theorem drawClass_of_supply (e : t.supply = s.supply) (i : Slot) : t.drawClass i = s.drawClass i := by
  have hc : t.copy i = s.copy i := congrArg (fun v => v.copies.get i) e
  rw [State.drawClass, State.drawClass, hc]

theorem draw_of_supply (e : t.supply = s.supply) : t.draw = s.draw := by
  have hd : t.slotDraw = s.slotDraw := funext fun i => by
    rw [State.slotDraw, State.slotDraw, powered_of_supply e, drawClass_of_supply e]
  rw [State.draw, State.draw, hd]

/-- What stays sound reads the supply alone. -/
theorem SupplySound.congr (h : SupplySound s) (e : t.supply = s.supply) : SupplySound t := by
  have hw : t.warm = s.warm := congrArg Supply.warm e
  have hb : t.budget = s.budget := congrArg Supply.budget e
  have hl : t.loads = s.loads := congrArg Supply.loads e
  exact {
    once := hw ▸ h.once
    warm := fun i => by rw [hw, powered_of_supply e]; exact h.warm i
    draw := by rw [draw_of_supply e, hb]; exact h.draw
    loadOnce := hl ▸ h.loadOnce
    loading := fun i hi => (loading_of_supply e i).2 (h.loading i (hl ▸ hi)) }

/-- A slot's record after another, or the same, has changed. -/
theorem modSlot_slot (s : State) (i k : Slot) (f : SlotRec → SlotRec) :
    (s.modSlot i f).slot k = if k = i then f (s.slot k) else s.slot k := by
  refine (PerSlot.get_set ..).trans ?_
  split
  case isTrue h => rw [h]
  case isFalse => rfl

/-- A change of a slot's record that keeps it powered or not, and in LOADING or not, leaves the supply alone. -/
theorem modSlot_supply {i : Slot} {f : SlotRec → SlotRec}
    (hp : (f (s.slot i)).state.powered = (s.slot i).state.powered)
    (hl : (f (s.slot i)).state = .loading ↔ (s.slot i).state = .loading) : (s.modSlot i f).supply = s.supply := by
  have h1 (k : Slot) : ((s.modSlot i f).slot k).state.powered = (s.slot k).state.powered := by
    rw [modSlot_slot]; split
    case isTrue h => rw [h, hp]
    case isFalse => rfl
  have h2 (k : Slot) : ((s.modSlot i f).slot k).state = .loading ↔ (s.slot k).state = .loading := by
    rw [modSlot_slot]; split
    case isTrue h => rw [h, hl]
    case isFalse => rfl
  unfold State.supply
  simp only [h1, h2]
  rfl

/-- A change of a slot's record that leaves its state leaves the supply alone. -/
theorem modSlot_keeps (s : State) (i : Slot) {f : SlotRec → SlotRec} (hf : ∀ r, (f r).state = r.state) :
    (s.modSlot i f).supply = s.supply := modSlot_supply (by rw [hf]) (by rw [hf])

/-! #### Completions, the audio and the credit unit -/

theorem complete_supply (s : State) (c : CellNo) (r : Result) (d : Nat) (l : List Nat) :
    (s.complete c r d l).supply = s.supply := by
  unfold State.complete
  split <;> rfl

theorem completeAll_supply (s : State) (cells : List CellNo) (r : Result) (d : Nat) (l : List Nat) :
    (s.completeAll cells r d l).supply = s.supply :=
  (congrArg State.supply (completeAll_frame cells r d l s)).trans rfl

theorem crossover_supply (s : State) : s.crossover.supply = s.supply := by
  unfold State.crossover
  split <;> rfl

theorem recomputeAudio_supply (s : State) : s.recomputeAudio.supply = s.supply := crossover_supply _

theorem setWanted_supply (s : State) (src : Option Source) : (s.setWanted src).supply = s.supply :=
  recomputeAudio_supply _

theorem muteAndLeave_supply (s : State) : s.muteAndLeave.supply = s.supply := recomputeAudio_supply _

theorem setRatio_supply (s : State) (src : Source) (r : Nat) : (s.setRatio src r).supply = s.supply := by
  unfold State.setRatio
  extract_lets
  split
  · exact recomputeAudio_supply _
  · rfl

theorem rampOnce_supply (s : State) : s.rampOnce.supply = s.supply := crossover_supply _

theorem routeUnit_supply (s : State) : s.routeUnit.supply = s.supply := by
  unfold State.routeUnit
  split <;> rfl

theorem coinUnits_supply (n : Nat) (s : State) : (s.coinUnits n).supply = s.supply := by
  induction n generalizing s with
  | zero => rfl
  | succ n ih => exact (ih _).trans (routeUnit_supply _)

theorem sampleCoin_supply (s : State) (l : CoinLine) (b : Bool) : (s.sampleCoin l b).supply = s.supply := by
  cases l <;> rfl

/-! #### The slot manager -/

theorem requestNewRun_supply (s : State) (i : Slot) : (s.requestNewRun i).supply = s.supply := by
  unfold State.requestNewRun
  extract_lets
  split <;> rfl

theorem reloadRestarts_supply (s : State) (i : Slot) : (s.reloadRestarts i).supply = s.supply := by
  unfold State.reloadRestarts
  split
  · exact modSlot_keeps _ _ fun _ => rfl
  · rfl

theorem join_supply (s : State) (i : Slot) (q : Requester) : (s.modSlot i (SlotRec.join q)).supply = s.supply :=
  modSlot_keeps _ _ fun _ => rfl

theorem withdrawHandOver_supply (s : State) (i : Slot) : (s.withdrawHandOver i).supply = s.supply := by
  unfold State.withdrawHandOver
  split
  · exact modSlot_keeps _ _ fun _ => rfl
  · rfl

theorem withdrawJob_supply (s : State) (i : Slot) : (s.withdrawJob i).supply = s.supply :=
  modSlot_keeps _ _ fun _ => rfl

theorem answerJob_supply (s : State) (i : Slot) (p : Option PowerUp) (r : Result) (d : Nat) (mask : Word) :
    (s.answerJob i p r d mask).supply = s.supply := by
  unfold State.answerJob
  split
  · exact complete_supply ..
  · rfl

theorem setReason_supply (s : State) (i : Slot) (f : FailReason) : (s.setReason i f).supply = s.supply :=
  modSlot_keeps _ _ fun _ => rfl

/-- A slot that loses sync stays powered (R129). -/
theorem enterLost_supply (s : State) (i : Slot) : (s.enterLost i).supply = s.supply := by
  unfold State.enterLost
  split
  case h_1 h => exact modSlot_supply (by rw [h]; rfl) (by rw [h]; simp)
  case h_2 h => exact modSlot_supply (by rw [h]; rfl) (by rw [h]; simp)
  case h_3 => rfl

theorem returnState_cases (s : State) (i : Slot) : s.returnState i = .onAir ∨ s.returnState i = .running := by
  unfold State.returnState
  split
  · exact .inl rfl
  · exact .inr rfl

/-- A slot that becomes stable was powered before (R31, R130). -/
theorem slotStable_supply (s : State) (i : Slot) : (s.slotStable i).supply = s.supply := by
  unfold State.slotStable
  split
  case h_1 h => exact (answerJob_supply ..).trans (modSlot_supply (by rw [h]; rfl) (by rw [h]; simp))
  case h_2 h =>
    rcases returnState_cases s i with hr | hr
    · exact modSlot_supply (by rw [h, hr]; rfl) (by rw [h, hr]; simp)
    · exact modSlot_supply (by rw [h, hr]; rfl) (by rw [h, hr]; simp)
  case h_3 => rfl

theorem releaseSlot_supply (s : State) (i : Slot) : (s.releaseSlot i).supply = s.supply := by
  unfold State.releaseSlot
  split
  case isTrue h => exact modSlot_supply (by rw [h]; rfl) (by rw [h]; simp)
  case isFalse => rfl

/-! #### The hand-over controller -/

theorem setPhase_supply (s : State) (p : Phase) : (s.setPhase p).supply = s.supply := by
  unfold State.setPhase
  split <;> rfl

theorem completeActive_supply (s : State) (r : Result) (d : Nat) (data : SwitchJob → List Nat) :
    (s.completeActive r d data).supply = s.supply := by
  unfold State.completeActive
  split
  · exact complete_supply ..
  · rfl

theorem completeActiveOk_supply (s : State) : s.completeActiveOk.supply = s.supply := by
  unfold State.completeActiveOk
  split <;> exact completeActive_supply ..

theorem judgeMenu_supply (s : State) : s.judgeMenu.supply = s.supply := by
  unfold State.judgeMenu
  split
  · exact setPhase_supply ..
  · rfl

theorem withdrawTarget_supply (s : State) : s.withdrawTarget.supply = s.supply := by
  unfold State.withdrawTarget
  split
  · exact withdrawHandOver_supply ..
  · rfl

theorem fallback_supply (s : State) (reason : FailReason) : (s.fallback reason).supply = s.supply :=
  (judgeMenu_supply _).trans (setPhase_supply ..)

theorem failToFallback_supply (s : State) (reason : FailReason) : (s.failToFallback reason).supply = s.supply :=
  (fallback_supply ..).trans ((withdrawTarget_supply _).trans (completeActive_supply ..))

theorem judge_supply (s : State) : s.judge.supply = s.supply := by
  unfold State.judge
  split
  case isTrue =>
    split
    · exact judgeMenu_supply _
    · split
      · split
        · exact setPhase_supply ..
        · exact failToFallback_supply ..
      · rfl
    · rfl
  case isFalse => rfl

theorem releaseOutgoing_supply (s : State) : s.releaseOutgoing.supply = s.supply := by
  unfold State.releaseOutgoing
  split
  · exact releaseSlot_supply ..
  · rfl

theorem releaseHandled_supply (s : State) : s.releaseHandled.supply = s.supply :=
  (judge_supply _).trans ((setWanted_supply ..).trans ((setPhase_supply ..).trans (releaseOutgoing_supply _)))

theorem outgoingFailure_supply (s : State) : s.outgoingFailure.supply = s.supply := releaseHandled_supply _

theorem lossStart_supply (s : State) : s.lossStart.supply = s.supply :=
  (muteAndLeave_supply _).trans (setPhase_supply ..)

theorem recordFeed_supply (s : State) (src : Source) : (s.recordFeed src).supply = s.supply := by cases src <;> rfl

theorem startRecovery_supply (s : State) (src : Source) : (s.startRecovery src).supply = s.supply :=
  (judge_supply _).trans ((lossStart_supply _).trans (recordFeed_supply ..))

theorem lossFallback_supply (s : State) (i : Slot) (reason : FailReason) :
    (s.lossFallback i reason).supply = s.supply := (judge_supply _).trans (lossStart_supply _)

theorem toQuiet_supply (s : State) : s.toQuiet.supply = s.supply := setPhase_supply ..

theorem returnToQuiet_supply (s : State) : s.returnToQuiet.supply = s.supply := by
  unfold State.returnToQuiet
  split
  · exact (startRecovery_supply ..).trans (toQuiet_supply _)
  · exact toQuiet_supply _

theorem fadeInEnd_supply (s : State) : s.fadeInEnd.supply = s.supply :=
  (returnToQuiet_supply _).trans (completeActiveOk_supply _)

theorem enterRelease_supply (s : State) : s.enterRelease.supply = s.supply := setPhase_supply ..

theorem levelAnnounced_supply (s : State) : s.levelAnnounced.supply = s.supply := by
  unfold State.levelAnnounced
  split
  case isTrue =>
    split
    · split
      · exact enterRelease_supply _
      · rfl
    · exact fadeInEnd_supply _
    · rfl
  case isFalse => rfl

theorem enterFadeOut_supply (s : State) (src : Source) : (s.enterFadeOut src).supply = s.supply :=
  (levelAnnounced_supply _).trans ((recomputeAudio_supply _).trans ((recordFeed_supply ..).trans (setPhase_supply ..)))

theorem cancel_supply (s : State) : s.cancel.supply = s.supply := by
  unfold State.cancel
  split
  · rfl
  · refine (levelAnnounced_supply _).trans ((recomputeAudio_supply _).trans ?_)
    rw [reopenFeed_eq]
    exact (setPhase_supply _ .fadeIn).trans (withdrawTarget_supply s)

theorem targetFailure_supply (s : State) (reason : FailReason) : (s.targetFailure reason).supply = s.supply := by
  unfold State.targetFailure
  split
  · exact (cancel_supply _).trans (completeActive_supply ..)
  · split
    · exact failToFallback_supply ..
    · rfl

theorem pendingFailed_supply (s : State) (r : Result) (d : Nat) (reason : FailReason) :
    (s.pendingFailed r d reason).supply = s.supply := (targetFailure_supply ..).trans (completeActive_supply ..)

theorem applyPin_supply (s : State) (j : SwitchJob) : (s.applyPin j).supply = s.supply := by
  unfold State.applyPin
  split
  · split
    · exact modSlot_keeps _ _ fun _ => rfl
    · rfl
  · rfl

theorem startHandOver_supply (s : State) (j : SwitchJob) (cold : Bool) (mask : Word) :
    (s.startHandOver j cold mask).supply = s.supply := by
  unfold State.startHandOver
  extract_lets
  split
  · exact enterFadeOut_supply ..
  · exact (judge_supply _).trans (setPhase_supply ..)

theorem retargetTo_supply (s : State) (target : Source) : (s.retargetTo target).supply = s.supply := by
  unfold State.retargetTo
  extract_lets
  split
  · exact withdrawTarget_supply s
  · exact (judge_supply _).trans ((setPhase_supply ..).trans (withdrawTarget_supply s))

theorem replaceActive_supply (s : State) (j : SwitchJob) (cold : Bool) (mask : Word) :
    (s.replaceActive j cold mask).supply = s.supply := by
  have ha : ((s.completeActive .superseded 0 s.switchData).adopt j cold mask).supply = s.supply :=
    completeActive_supply ..
  unfold State.replaceActive
  extract_lets
  split
  · exact (cancel_supply _).trans ha
  · split
    · exact ha
    · exact (retargetTo_supply ..).trans ha

theorem makeWait_supply (s : State) (j : SwitchJob) : (s.makeWait j).supply = s.supply := by
  unfold State.makeWait
  extract_lets t
  have ht : t.supply = s.supply := by
    unfold t
    split
    · exact complete_supply ..
    · rfl
  exact ht

theorem completeAtChecks_supply (s : State) (j : SwitchJob) (v : Verdict) :
    (s.completeAtChecks j v).supply = s.supply := by
  unfold State.completeAtChecks
  split
  · exact complete_supply ..
  · exact (complete_supply ..).trans (applyPin_supply ..)
  · rfl

theorem controllerExpiry_supply (s : State) (i : Slot) (reason : FailReason) :
    (s.controllerExpiry i reason).supply = s.supply := by
  unfold State.controllerExpiry
  split
  case h_1 | h_2 =>
    split
    · exact outgoingFailure_supply _
    · split
      · exact targetFailure_supply ..
      · rfl
  case h_3 | h_4 | h_5 =>
    split
    · exact targetFailure_supply ..
    · rfl
  all_goals rfl

theorem backToOutgoing_supply (s : State) (src : Source) : (s.backToOutgoing src).supply = s.supply := by
  unfold State.backToOutgoing
  extract_lets t
  have ht : t.supply = s.supply := by
    unfold t
    split
    · rfl
    · exact withdrawTarget_supply s
  exact (judge_supply _).trans ((setPhase_supply ..).trans ht)

theorem chooseAnew_supply (s : State) : s.chooseAnew.supply = s.supply := by
  unfold State.chooseAnew
  split
  · split
    · exact backToOutgoing_supply ..
    · exact (fallback_supply ..).trans (withdrawTarget_supply s)
  · exact (fallback_supply ..).trans (withdrawTarget_supply s)

theorem restartHandOver_supply (s : State) : s.restartHandOver.supply = s.supply := by
  unfold State.restartHandOver
  extract_lets
  split
  case h_1 | h_2 | h_3 => exact cancel_supply _
  case h_4 | h_5 | h_6 => exact (fallback_supply ..).trans (withdrawTarget_supply _)
  case h_7 => rfl

theorem chordFallback_supply (s : State) (i : Slot) : (s.chordFallback i).supply = s.supply := enterFadeOut_supply ..

end
end Sys2Proof.Machine
end

section
namespace Sys2Proof.Machine

/-! ### The draw and the warm list as slots are powered and cool (R21, R28 to R30, R34, R37, R38) -/

section
variable {s t : State}

/-- The draw of two states that differ in what one slot draws. -/
theorem draw_change {i : Slot} (h : ∀ k, k ≠ i → t.slotDraw k = s.slotDraw k) :
    t.draw + s.slotDraw i = s.draw + t.slotDraw i := by
  have hs : ∀ u : State, u.draw = u.slotDraw .s1 + (u.slotDraw .s2 + (u.slotDraw .s3 + (u.slotDraw .s4 +
      (u.slotDraw .s5 + (u.slotDraw .s6 + (u.slotDraw .s7 + (u.slotDraw .s8 + 0))))))) := fun _ => rfl
  rw [hs, hs]
  cases i <;> simp [h] <;> omega

theorem slotDraw_congr {k : Slot} (hs : (t.slot k).state = (s.slot k).state) (hc : t.copy k = s.copy k) :
    t.slotDraw k = s.slotDraw k := by
  rw [State.slotDraw, State.slotDraw, State.drawClass, State.drawClass, hs, hc]

theorem slotDraw_powered {k : Slot} (h : (s.slot k).state.powered = true) : s.slotDraw k = s.drawClass k := if_pos h

theorem slotDraw_unpowered {k : Slot} (h : (s.slot k).state.powered = false) : s.slotDraw k = 0 := by
  rw [State.slotDraw, h]
  rfl

/-- A slot leaves the powered states, the warm list and the bus queue, if it was in them. -/
theorem SupplySound.unpower {i : Slot} (h : SupplySound s) (hw : t.warm = s.warm.erase i) (hb : t.budget = s.budget)
    (hl : t.loads.Sublist s.loads) (hi : i ∉ t.loads) (hp : (t.slot i).state.powered = false)
    (hs : ∀ k, k ≠ i → (t.slot k).state = (s.slot k).state) (hc : ∀ k, k ≠ i → t.copy k = s.copy k) :
    SupplySound t where
  once := hw ▸ h.once.erase i
  warm k := by
    rw [hw, h.once.mem_erase_iff]
    by_cases hk : k = i
    · simp [hk, hp]
    · simp [hk, hs k hk, h.warm k]
  draw := by
    have hd := draw_change fun k hk => slotDraw_congr (hs k hk) (hc k hk)
    have hs := h.draw
    rw [slotDraw_unpowered hp] at hd
    omega
  loadOnce := h.loadOnce.sublist hl
  loading k hk := by
    have hne : k ≠ i := fun e => hi (e ▸ hk)
    rw [hs k hne]
    exact h.loading k (hl.subset hk)

/-- Only a slot in LOADING has a load request. -/
theorem SupplySound.not_loads {i : Slot} (h : SupplySound s) (hi : (s.slot i).state ≠ .loading) : i ∉ s.loads :=
  fun hm => hi (h.loading i hm)

theorem SupplySound.not_warm {i : Slot} (h : SupplySound s) (hi : (s.slot i).state.powered = false) : i ∉ s.warm := by
  rw [h.warm i, hi]
  exact Bool.false_ne_true

/-- The record of a slot that has gone to COOLING with this long on its cool timer (R34). -/
def SlotRec.cooling (ms : Nat) (r : SlotRec) : SlotRec :=
  { r with
    state := .cooling, settle := none, start := none, grace := none, cool := some ms, powerUp := none }

theorem toCooling_slot (s : State) (i k : Slot) : (s.toCooling i).slot k =
    if k = i then (s.slot k).cooling (s.figure i Descriptor.cool * 100) else s.slot k :=
  modSlot_slot s i k (SlotRec.cooling (s.figure i Descriptor.cool * 100))

theorem SupplySound.toCooling (h : SupplySound s) {i : Slot} (hi : (s.slot i).state ≠ .loading) :
    SupplySound (s.toCooling i) :=
  h.unpower rfl rfl (List.Sublist.refl _) (h.not_loads hi) (by rw [toCooling_slot, if_pos rfl]; rfl)
    (fun k hk => by rw [toCooling_slot, if_neg hk]) (fun _ _ => rfl)

/-- The slots that an eviction takes can make room for a slot: each powered, no two the same, and with their classes gone
the slot's own fits the budget (R28). -/
structure Affords (s : State) (i : Slot) (vs : List Slot) : Prop where
  once : vs.Nodup
  powered : ∀ v, v ∈ vs → (s.slot v).state.powered = true
  fits : s.draw + s.drawClass i ≤ s.budget + s.classSum vs

theorem Affords.congr {i : Slot} {vs : List Slot} (h : Affords s i vs) (e : t.supply = s.supply) : Affords t i vs where
  once := h.once
  powered v hv := (powered_of_supply e v).trans (h.powered v hv)
  fits := by
    have hb : t.budget = s.budget := congrArg Supply.budget e
    have hd : t.drawClass = s.drawClass := funext (drawClass_of_supply e)
    rw [draw_of_supply e, hb, State.classSum, hd]
    exact h.fits

theorem candidate_running {v : Slot} (h : s.candidate v = true) : (s.slot v).state = .running := by
  simp only [State.candidate, Bool.and_eq_true, decide_eq_true_eq] at h
  exact h.1.1.1

theorem powered_of_running {v : Slot} (h : (s.slot v).state = .running) : (s.slot v).state.powered = true := by
  rw [h]; rfl

theorem classSum_cons (s : State) (v : Slot) (vs : List Slot) : s.classSum (v :: vs) = s.drawClass v + s.classSum vs := by
  simp [State.classSum]

theorem classSum_append (s : State) (vs ws : List Slot) : s.classSum (vs ++ ws) = s.classSum vs + s.classSum ws := by
  simp [State.classSum]

/-- The slots that the check collects: candidates in their order, with whose classes gone the slot's own fits (R28). -/
theorem gather_some {c : Nat} {l : List Slot} {d : Nat} {chosen vs : List Slot} (h : s.gather c l d chosen = some vs) :
    ∃ ws, vs = chosen ++ ws ∧ ws.Sublist l ∧ (∀ v, v ∈ ws → s.candidate v = true) ∧ d - s.classSum ws + c ≤ s.budget := by
  induction l generalizing d chosen with
  | nil => cases h
  | cons v rest ih =>
    unfold State.gather at h
    split at h
    case isTrue hv =>
      split at h
      case isTrue hf =>
        cases h
        exact ⟨[v], rfl, by simp, by simpa using hv, by simpa [State.classSum] using hf⟩
      case isFalse =>
        obtain ⟨ws, rfl, hsub, hall, hfit⟩ := ih h
        refine ⟨v :: ws, by simp, hsub.cons_cons v, ?_, ?_⟩
        · simpa [hv] using hall
        · rw [classSum_cons, ← Nat.sub_sub]
          exact hfit
    case isFalse =>
      obtain ⟨ws, rfl, hsub, hall, hfit⟩ := ih h
      exact ⟨ws, rfl, hsub.cons v, hall, hfit⟩

/-- A check that passes can afford the slot (R28). -/
theorem SupplySound.affords (h : SupplySound s) {i : Slot} {e : Bool} {vs : List Slot} (hc : s.check i e = some vs) :
    Affords s i vs := by
  unfold State.check at hc
  split at hc
  case isTrue hf =>
    cases hc
    exact ⟨List.nodup_nil, by simp, by simpa [State.classSum] using hf⟩
  case isFalse =>
    split at hc
    · obtain ⟨ws, hws, hsub, hall, hfit⟩ := gather_some hc
      rw [List.nil_append] at hws
      subst hws
      exact ⟨(List.nodup_reverse.2 h.once).sublist hsub, fun v hv => powered_of_running (candidate_running (hall v hv)),
        by omega⟩
    · cases hc

/-- The slots' states, the warm list and the draw once a list of powered slots has been evicted (R29, R34). -/
theorem evictAll_slot {vs : List Slot} (hn : vs.Nodup) (s : State) (k : Slot) : (s.evictAll vs).slot k =
    if k ∈ vs then (s.slot k).cooling (s.figure k Descriptor.cool * 100) else s.slot k := by
  induction vs generalizing s with
  | nil => rfl
  | cons v vs ih =>
    obtain ⟨hv, hn⟩ := List.nodup_cons.1 hn
    refine (ih hn (s.toCooling v)).trans ?_
    rw [toCooling_slot]
    by_cases hk : k = v
    · subst hk; simp [hv]
    · simp only [hk, List.mem_cons, false_or, if_false]
      rfl

theorem evictAll_eq (vs : List Slot) (s : State) :
    s.evictAll vs = { s with slots := (s.evictAll vs).slots, warm := (s.evictAll vs).warm } := by
  induction vs generalizing s with
  | nil => rfl
  | cons v vs ih => exact ih (s.toCooling v)

theorem toCooling_draw {i : Slot} (hp : (s.slot i).state.powered = true) :
    (s.toCooling i).draw + s.drawClass i = s.draw := by
  have hd := draw_change (t := s.toCooling i) (s := s) (i := i) fun k hk =>
    slotDraw_congr (by rw [toCooling_slot, if_neg hk]) rfl
  rwa [slotDraw_powered hp, slotDraw_unpowered (by rw [toCooling_slot, if_pos rfl]; rfl)] at hd

theorem evictAll_draw {vs : List Slot} (hn : vs.Nodup) {s : State}
    (hp : ∀ v, v ∈ vs → (s.slot v).state.powered = true) : (s.evictAll vs).draw + s.classSum vs = s.draw := by
  induction vs generalizing s with
  | nil => rfl
  | cons v vs ih =>
    obtain ⟨hv, hn⟩ := List.nodup_cons.1 hn
    have hrest := ih hn (s := s.toCooling v) fun k hk => by
      rw [toCooling_slot, if_neg (ne_of_mem_of_not_mem hk hv)]
      exact hp k (List.mem_cons_of_mem _ hk)
    have hfirst := toCooling_draw (hp v List.mem_cons_self)
    have hsum : (s.toCooling v).classSum vs = s.classSum vs := rfl
    have hall : s.evictAll (v :: vs) = (s.toCooling v).evictAll vs := rfl
    rw [classSum_cons, hall]
    omega

theorem SupplySound.evictAll {vs : List Slot} (hn : vs.Nodup) {s : State} (h : SupplySound s)
    (hp : ∀ v, v ∈ vs → (s.slot v).state.powered = true) : SupplySound (s.evictAll vs) := by
  induction vs generalizing s with
  | nil => exact h
  | cons v vs ih =>
    obtain ⟨hv, hn⟩ := List.nodup_cons.1 hn
    have hl : (s.slot v).state ≠ .loading := fun e => by
      have := hp v List.mem_cons_self
      rw [e] at this
      cases this
    refine ih hn (h.toCooling hl) fun k hk => ?_
    rw [toCooling_slot, if_neg (ne_of_mem_of_not_mem hk hv)]
    exact hp k (List.mem_cons_of_mem _ hk)

/-- The record of a slot that has been powered with this long on its settle timer (R30). -/
def SlotRec.settling (ms : Nat) (r : SlotRec) : SlotRec :=
  { r with
    state := .settling, settle := some ms, start := none, grace := none, cool := none, overCount := 0 }

theorem applyPower_slot (s : State) (i k : Slot) : (s.applyPower i).slot k =
    if k = i then (s.slot k).settling (s.figure i Descriptor.settle * 10) else s.slot k :=
  modSlot_slot s i k (SlotRec.settling (s.figure i Descriptor.settle * 10))

theorem applyPower_draw {i : Slot} (hp : (s.slot i).state.powered = false) :
    (s.applyPower i).draw = s.draw + s.drawClass i := by
  have hd := draw_change (t := s.applyPower i) (s := s) (i := i) fun k hk =>
    slotDraw_congr (by rw [applyPower_slot, if_neg hk]) rfl
  rwa [slotDraw_unpowered hp, slotDraw_powered (by rw [applyPower_slot, if_pos rfl]; rfl)] at hd

/-- A slot that is not powered, whose class fits, is powered (R30). -/
theorem SupplySound.applyPower (h : SupplySound s) {i : Slot} (hp : (s.slot i).state.powered = false)
    (hl : (s.slot i).state ≠ .loading) (hf : s.draw + s.drawClass i ≤ s.budget) : SupplySound (s.applyPower i) where
  once := List.nodup_cons.2 ⟨fun hm => ((h.once.mem_erase_iff).1 hm).1 rfl, h.once.erase i⟩
  warm k := by
    have hm : k ∈ (s.applyPower i).warm ↔ k = i ∨ k ∈ s.warm.erase i := List.mem_cons
    rw [hm, h.once.mem_erase_iff, applyPower_slot]
    by_cases hk : k = i
    · simp [hk, SlotRec.settling, SlotState.powered]
    · simp [hk, h.warm k]
  draw := by rw [applyPower_draw hp]; exact hf
  loadOnce := h.loadOnce
  loading k hk := by
    have hne : k ≠ i := fun e => h.not_loads hl (e ▸ hk)
    rw [applyPower_slot, if_neg hne]
    exact h.loading k hk

/-- A passing check takes effect (R29, R30). -/
theorem SupplySound.powerSlot (h : SupplySound s) {i : Slot} {vs : List Slot} (hp : (s.slot i).state.powered = false)
    (hl : (s.slot i).state ≠ .loading) (ha : Affords s i vs) : SupplySound (s.powerSlot i vs) := by
  have hi : i ∉ vs := fun hm => by
    rw [ha.powered i hm] at hp
    cases hp
  have hslot : (s.evictAll vs).slot i = s.slot i := by rw [evictAll_slot ha.once, if_neg hi]
  have hd := evictAll_draw ha.once ha.powered
  have hfit := ha.fits
  have hframe := evictAll_eq vs s
  have hclass : (s.evictAll vs).drawClass i = s.drawClass i := by rw [hframe]; rfl
  have hbudget : (s.evictAll vs).budget = s.budget := by rw [hframe]
  refine SupplySound.congr ?_ (modSlot_keeps _ _ fun _ => rfl)
  exact (h.evictAll ha.once ha.powered).applyPower (by rwa [hslot]) (by rwa [hslot]) (by omega)

theorem queueLoad_slot (s : State) (kind : BusKind) (i : Slot) (cells : List CellNo) (k : Slot) :
    (s.queueLoad kind i cells).slot k = if k = i then { s.slot k with state := .loading } else s.slot k :=
  modSlot_slot s i k fun r => { r with state := .loading }

/-- A load request is queued for a slot that is not powered and has none (R25, R53). -/
theorem SupplySound.queueLoad (h : SupplySound s) {kind : BusKind} (hk : kind = .autoload ∨ kind = .reload) {i : Slot}
    (hp : (s.slot i).state.powered = false) (hl : (s.slot i).state ≠ .loading) (cells : List CellNo) :
    SupplySound (s.queueLoad kind i cells) := by
  have hslot := queueLoad_slot s kind i cells
  have hloads : (s.queueLoad kind i cells).loads = s.loads ++ [i] := by
    have hq : (s.queueLoad kind i cells).bus.queue = s.bus.queue ++ [loadRequest kind i cells] := rfl
    rw [State.loads, hq, List.filter_append, List.map_append]
    rcases hk with rfl | rfl <;> rfl
  have hd := draw_change (t := s.queueLoad kind i cells) (s := s) (i := i) fun k hk =>
    slotDraw_congr (by rw [hslot, if_neg hk]) (PerSlot.get_set_other _ hk _)
  rw [slotDraw_unpowered hp, slotDraw_unpowered (by rw [hslot, if_pos rfl]; rfl)] at hd
  refine ⟨h.once, fun k => ?_, by have := h.draw; exact (by omega : (s.queueLoad kind i cells).draw ≤ s.budget), ?_,
    fun k hm => ?_⟩
  · refine (h.warm k).trans ?_
    rw [hslot]
    by_cases hk : k = i
    · rw [if_pos hk, hk, hp]; rfl
    · rw [if_neg hk]
  · rw [hloads, List.nodup_append]
    refine ⟨h.loadOnce, List.nodup_singleton i, fun a ha b hb => ?_⟩
    rw [List.mem_singleton.1 hb]
    exact fun e => h.not_loads hl (e ▸ ha)
  · rw [hslot]
    rw [hloads, List.mem_append, List.mem_singleton] at hm
    split
    case isTrue => rfl
    case isFalse hne => exact h.loading k (hm.resolve_right hne)

end
end Sys2Proof.Machine
end

section
namespace Sys2Proof.Machine

/-! ### The supply under requests, loads and evictions, and the waiting job (R27, R103, R113, R116) -/

section
variable {s t : State}

theorem powered_of_off {r : SlotRec} (h : r.state = .off) : r.state.powered = false ∧ r.state ≠ .loading := by
  rw [h]
  exact ⟨rfl, by simp⟩

theorem SupplySound.request (h : SupplySound s) (i : Slot) (q : Requester) : SupplySound (s.request i q).2 := by
  have hr : ((s.modSlot i (SlotRec.join q)).reloadRestarts i).supply = s.supply :=
    (reloadRestarts_supply ..).trans (join_supply ..)
  unfold State.request
  split
  case h_1 hoff =>
    obtain ⟨hp, hl⟩ := powered_of_off hoff
    split
    · exact h
    case h_2 vs hc =>
      exact (h.congr hr).powerSlot (by rwa [powered_of_supply hr]) (by rwa [ne_eq, loading_of_supply hr])
        ((h.affords hc).congr hr)
  case h_3 =>
    split
    · exact h.congr (join_supply ..)
    · exact h
  case h_2 | h_4 | h_5 => exact h.congr hr
  case h_6 | h_7 | h_8 => exact h.congr (reloadRestarts_supply ..)
  all_goals exact h

theorem SupplySound.prepareSlot (h : SupplySound s) (i : Slot) (j : SwitchJob) : SupplySound (s.prepareSlot i j).2 := by
  unfold State.prepareSlot
  split
  case h_1 | h_2 => split <;> exact h
  case h_4 | h_5 | h_6 | h_7 | h_8 => exact h.request ..
  all_goals exact h

theorem SupplySound.prepare (h : SupplySound s) (j : SwitchJob) : SupplySound (s.prepare j).2 := by
  unfold State.prepare
  split
  · split <;> exact h
  · split
    · exact h
    · exact h.prepareSlot ..

theorem SupplySound.switchInQuiet (h : SupplySound s) (j : SwitchJob) : SupplySound (s.switchInQuiet j) := by
  have hv := (h.congr (setPhase_supply s .prepare)).prepare j
  unfold State.switchInQuiet
  extract_lets
  split
  · exact hv.congr ((startHandOver_supply ..).trans (applyPin_supply ..))
  all_goals exact hv.congr ((setPhase_supply ..).trans (completeAtChecks_supply ..))

theorem SupplySound.switchInFlight (h : SupplySound s) (j : SwitchJob) : SupplySound (s.switchInFlight j) := by
  have hv := h.prepare j
  unfold State.switchInFlight
  extract_lets
  split
  · exact hv.congr ((replaceActive_supply ..).trans (applyPin_supply ..))
  all_goals exact hv.congr (completeAtChecks_supply ..)

theorem SupplySound.takeSwitch (h : SupplySound s) (j : SwitchJob) : SupplySound (s.takeSwitch j) := by
  unfold State.takeSwitch
  split
  case h_1 | h_2 => exact h.switchInQuiet j
  case h_3 => exact h.congr (makeWait_supply ..)
  all_goals exact h.switchInFlight j

theorem SupplySound.takeUpWaiting (h : SupplySound s) : SupplySound s.takeUpWaiting := by
  unfold State.takeUpWaiting
  split
  · exact SupplySound.takeSwitch (h.congr (by rfl)) _
  · exact h

theorem SupplySound.levelReached (h : SupplySound s) : SupplySound s.levelReached := by
  have hl := h.congr (levelAnnounced_supply s)
  unfold State.levelReached
  split
  · exact hl.takeUpWaiting
  · exact hl

theorem SupplySound.ratioAnnounced (h : SupplySound s) (src : Source) : SupplySound (s.ratioAnnounced src) := by
  unfold State.ratioAnnounced
  split
  · exact h.levelReached
  · exact h

theorem SupplySound.failInFadeIn (h : SupplySound s) {handle : State → State}
    (hh : ∀ u, (handle u).supply = u.supply) : SupplySound (s.failInFadeIn handle) :=
  (h.congr ((hh _).trans ((toQuiet_supply _).trans (completeActiveOk_supply _)))).takeUpWaiting

theorem SupplySound.controllerLoses (h : SupplySound s) (src : Source) (noSync : Bool) :
    SupplySound (s.controllerLoses src noSync) := by
  unfold State.controllerLoses
  split
  case h_1 | h_2 =>
    split
    · exact h.congr (startRecovery_supply ..)
    · exact h
  case h_3 =>
    split
    · exact h.failInFadeIn fun u => startRecovery_supply ..
    · exact h
  case h_4 | h_5 =>
    split
    · exact h.congr (outgoingFailure_supply _)
    · exact h
  case h_6 | h_7 =>
    split
    · exact h.congr ((judge_supply _).trans (setPhase_supply ..))
    · exact h
  case h_8 => exact h

theorem SupplySound.controllerSlotFails (h : SupplySound s) (i : Slot) (reason : FailReason) :
    SupplySound (s.controllerSlotFails i reason) := by
  unfold State.controllerSlotFails
  split
  case h_1 | h_2 =>
    split
    · exact h.congr (lossFallback_supply ..)
    · exact h
  case h_3 =>
    split
    · exact h.failInFadeIn fun u => lossFallback_supply ..
    · exact h
  case h_4 | h_5 =>
    split
    · exact h.congr (outgoingFailure_supply _)
    · split
      · exact h.congr (targetFailure_supply ..)
      · exact h
  all_goals
    split
    · exact h.congr (targetFailure_supply ..)
    · exact h

theorem onFinding_supply (s : State) (f : Finding) : (s.onFinding f).supply = s.supply := by
  unfold State.onFinding
  split
  case h_3 =>
    split
    · exact setPhase_supply ..
    · rfl
  case h_5 =>
    split
    · exact targetFailure_supply ..
    · rfl
  all_goals rfl

theorem countFrame_supply (s : State) : s.countFrame.supply = s.supply := by
  unfold State.countFrame
  split <;> rfl

theorem cutCredit_supply (s : State) (src : Source) : (s.cutCredit src).supply = s.supply := by cases src <;> rfl

theorem cutSlot_slot (s : State) (i k : Slot) : (s.cutSlot i).slot k =
    if k = i ∧ (s.slot k).state = .running then { s.slot k with state := .onAir } else s.slot k := by
  unfold State.cutSlot
  by_cases hk : k = i
  · subst hk
    split
    case isTrue hr =>
      rw [if_pos ⟨rfl, hr⟩]
      exact PerSlot.get_set_same ..
    case isFalse hr => exact (if_neg fun hc => hr hc.2).symm
  · have hne : ¬ (k = i ∧ (s.slot k).state = .running) := fun hc => hk hc.1
    rw [if_neg hne]
    split
    · exact PerSlot.get_set_other _ hk _
    · rfl

/-- A cut moves its slot to the head of the warm list, where it stood already (R33, R38). -/
theorem SupplySound.cutSlot (h : SupplySound s) (i : Slot) : SupplySound (s.cutSlot i) := by
  unfold State.cutSlot
  split
  case isFalse => exact h
  case isTrue hr =>
    have hv : (s.modSlot i fun r => { r with state := .onAir }).supply = s.supply :=
      modSlot_supply (by rw [hr]; rfl) (by rw [hr]; simp)
    have hm := h.congr hv
    have hi : i ∈ s.warm := (h.warm i).2 (powered_of_running hr)
    have hwarm (k : Slot) : k ∈ i :: s.warm.erase i ↔ k ∈ s.warm := by
      rw [List.mem_cons, h.once.mem_erase_iff]
      by_cases hk : k = i
      · simp [hk, hi]
      · simp [hk]
    exact {
      once := List.nodup_cons.2 ⟨fun hc => ((h.once.mem_erase_iff).1 hc).1 rfl, h.once.erase i⟩
      warm := fun k => (hwarm k).trans (hm.warm k)
      draw := hm.draw
      loadOnce := hm.loadOnce
      loading := hm.loading }

theorem SupplySound.cutHandled (h : SupplySound s) (src : Source) (rough : Bool) :
    SupplySound (s.cutHandled src rough) := by
  have hc (u : State) (hu : SupplySound u) : SupplySound (u.cutSource src) := by
    cases src with
    | menu => exact hu
    | slot i => exact hu.cutSlot i
  have ht : SupplySound (({ s with ho.onAir := some src, ho.rough := rough, ho.cancelled := false }.cutSource
      src).cutCredit src) := (hc _ (h.congr (by rfl))).congr (cutCredit_supply ..)
  refine SupplySound.levelReached (ht.congr ?_)
  exact (setWanted_supply ..).trans (setPhase_supply ..)

/-! ### The supply under the slots' events and the bus (R23, R25, R26, R34, R35, R51 to R56, R60 to R63) -/

theorem SupplySound.reachOff (h : SupplySound s) {i : Slot} (hp : (s.slot i).state.powered = false)
    (hl : (s.slot i).state ≠ .loading) : SupplySound (s.reachOff i) := by
  have hv : (s.modSlot i fun r => { r.stopTimers with state := .off }).supply = s.supply :=
    modSlot_supply (by rw [hp]; rfl) (by simp [hl])
  have hs := h.congr hv
  unfold State.reachOff
  extract_lets t
  split
  · refine SupplySound.queueLoad (hs.congr (by rfl)) (.inr rfl) ?_ ?_ []
    · exact (powered_of_supply hv i).trans hp
    · exact fun e => hl ((loading_of_supply hv i).1 e)
  · exact hs

theorem SupplySound.descriptorEffect (h : SupplySound s) (i : Slot) : SupplySound (s.descriptorEffect i).1 := by
  unfold State.descriptorEffect
  split
  case h_1 e | h_2 e => exact h.queueLoad (.inr rfl) (by rw [e]; rfl) (by rw [e]; simp) []
  all_goals exact h.congr rfl

theorem SupplySound.writeEffect (h : SupplySound s) (q : BusRequest) : SupplySound (s.writeEffect q).1 := by
  unfold State.writeEffect
  split
  · exact h.descriptorEffect _
  · exact h

theorem dequeue_loads (s : State) : s.dequeue.loads.Sublist s.loads :=
  ((List.tail_sublist s.bus.queue).filter _).map _

/-- A request that leaves the queue leaves the others as they stood (R51). -/
theorem SupplySound.dequeue (h : SupplySound s) : SupplySound s.dequeue where
  once := h.once
  warm := h.warm
  draw := h.draw
  loadOnce := h.loadOnce.sublist (dequeue_loads s)
  loading i hi := h.loading i ((dequeue_loads s).subset hi)

/-- The head request is the only load request of its slot, which is in LOADING (R52). -/
theorem SupplySound.head_load (h : SupplySound s) {q : BusRequest} (hq : s.bus.queue.head? = some q)
    (hl : q.isLoad = true) : q.slot ∉ s.dequeue.loads ∧ (s.slot q.slot).state = .loading := by
  obtain ⟨rest, hr⟩ : ∃ rest, s.bus.queue = q :: rest := by
    cases hs : s.bus.queue with
    | nil => simp [hs] at hq
    | cons a l => simp only [hs, List.head?_cons, Option.some.injEq] at hq; exact ⟨l, by rw [hq]⟩
  have hd : s.dequeue.loads = (rest.filter BusRequest.isLoad).map BusRequest.slot := by
    have ht : s.dequeue.bus.queue = s.bus.queue.tail := rfl
    rw [State.loads, ht, hr]
    rfl
  have hs : s.loads = q.slot :: s.dequeue.loads := by
    rw [hd, State.loads, hr, List.filter_cons_of_pos hl, List.map_cons]
  refine ⟨?_, h.loading _ (by rw [hs]; exact List.mem_cons_self)⟩
  have hn := h.loadOnce
  rw [hs] at hn
  exact (List.nodup_cons.1 hn).1

theorem SupplySound.stopWrite (h : SupplySound s) (q : BusRequest) : SupplySound (s.stopWrite q).1 :=
  SupplySound.writeEffect (h.dequeue.congr (by rfl)) q

theorem failPending_supply (s : State) (i : Slot) (p : PowerUp) (r : Result) (d : Nat) (reason : FailReason) :
    (s.failPending i p r d reason).supply = s.supply := by
  have ht : ((s.modSlot i fun q => { q with powerUp := none }).answerJob i (some p) r d 0).supply = s.supply :=
    (answerJob_supply ..).trans (modSlot_keeps _ _ fun _ => rfl)
  unfold State.failPending
  extract_lets
  split
  · exact (pendingFailed_supply ..).trans ht
  · exact ht

theorem reportMask_supply (s : State) (i : Slot) (p : PowerUp) (mask : Word) :
    (s.reportMask i p mask).supply = s.supply := by
  unfold State.reportMask
  split <;> rfl

theorem SupplySound.checkPending (h : SupplySound s) {i : Slot} (hp : (s.slot i).state.powered = false)
    (hl : (s.slot i).state ≠ .loading) : SupplySound (s.checkPending i) := by
  unfold State.checkPending
  split
  · exact h
  · split
    case h_1 vs hc => exact (h.powerSlot hp hl (h.affords hc)).congr (reportMask_supply ..)
    case h_2 =>
      refine h.congr ((failPending_supply ..).trans ?_)
      split
      · exact setReason_supply ..
      · rfl

theorem SupplySound.cooled (h : SupplySound s) (i : Slot) : SupplySound (s.cooled i) := by
  unfold State.cooled
  split
  case isTrue hc =>
    have hr := h.reachOff (i := i) (by rw [hc]; rfl) (by rw [hc]; simp)
    extract_lets
    split
    case isTrue hoff =>
      obtain ⟨hp, hl⟩ := powered_of_off hoff
      exact hr.checkPending hp hl
    case isFalse => exact hr
  case isFalse => exact h

theorem SupplySound.presence (h : SupplySound s) (i : Slot) : SupplySound (s.presence i) := by
  unfold State.presence
  split
  case isTrue e =>
    have hs : SupplySound { s with pins.presence := s.pins.presence.set i true } := h.congr (by rfl)
    refine SupplySound.congr ?_ (modSlot_keeps _ _ fun _ => rfl)
    exact hs.queueLoad (.inl rfl) ((congrArg SlotState.powered e).trans rfl) (fun hl => by cases e.symm.trans hl) []
  case isFalse => exact h

theorem endRestart_supply (s : State) : s.endRestart.supply = s.supply := rfl

/-- The supply once the bus has lost a slot's requests and copy (R62). -/
theorem removeBus_supply (s : State) (i : Slot) :
    (s.removeBus i).supply = { s with bus := s.bus.withoutSlot i (s.servingSlot i) }.supply := by
  have hc : (s.completeAll (cellsFor i s.bus.queue) .noBoard 0 []) = { s with
      window := (s.completeAll (cellsFor i s.bus.queue) .noBoard 0 []).window,
      intake := (s.completeAll (cellsFor i s.bus.queue) .noBoard 0 []).intake } := completeAll_frame ..
  unfold State.removeBus
  rw [hc]
  extract_lets
  split <;> rfl

theorem removeRouter_supply (s : State) (i : Slot) : (s.removeRouter i).supply = s.supply := by
  unfold State.removeRouter
  extract_lets t
  have ht : t.supply = s.supply := by
    unfold t
    split
    · exact complete_supply ..
    · rfl
  exact ht

theorem removeSlot_sound (h : SupplySound s) (i : Slot) (b : Bool) :
    SupplySound { s.emptySlot i with bus := s.bus.withoutSlot i b } := by
  have hslot (k : Slot) : (s.emptySlot i).slot k =
      if k = i then { SlotRec.reset with reason := .removed } else s.slot k := PerSlot.get_set ..
  refine h.unpower (i := i) rfl rfl ((List.filter_sublist.filter _).map _) ?_ ?_ ?_ ?_
  · intro hm
    obtain ⟨q, hq, hi⟩ := List.mem_map.1 hm
    have := List.of_mem_filter (List.mem_of_mem_filter hq)
    simp [hi] at this
  · exact (congrArg (fun r => r.state.powered) (hslot i)).trans (by rw [if_pos rfl])
  · intro k hk
    exact congrArg SlotRec.state ((hslot k).trans (if_neg hk))
  · intro k hk
    exact PerSlot.get_set_other _ hk _

theorem SupplySound.removeSlot (h : SupplySound s) (i : Slot) : SupplySound (s.removeSlot i) := by
  unfold State.removeSlot
  split
  · exact h
  · extract_lets u
    refine SupplySound.controllerSlotFails ?_ i _
    have hu : u = { s.emptySlot i with window := u.window, intake := u.intake } := by
      unfold u State.answerJob
      split
      · exact complete_frame ..
      · rfl
    refine (removeSlot_sound h i (u.servingSlot i)).congr ((removeRouter_supply ..).trans ?_)
    refine (removeBus_supply u i).trans ?_
    rw [hu]
    rfl

theorem SupplySound.faultSlot (h : SupplySound s) {i : Slot} (hp : (s.slot i).state.powered = true) :
    SupplySound (s.faultSlot i) := by
  have hl : (s.slot i).state ≠ .loading := fun e => by rw [e] at hp; cases hp
  have hslot (k : Slot) : (s.faultSlot i).slot k = if k = i then _ else s.slot k := modSlot_slot s i k fun r =>
    { r.stopTimers with state := .fault, reason := .overcurrent, overCount := 0, powerUp := none }
  exact h.unpower rfl rfl (List.Sublist.refl _) (h.not_loads hl) (by rw [hslot, if_pos rfl]; rfl)
    (fun k hk => by rw [hslot, if_neg hk]) (fun _ _ => rfl)

theorem SupplySound.overcurrent (h : SupplySound s) (i : Slot) : SupplySound (s.overcurrent i) := by
  unfold State.overcurrent
  split
  case isTrue hp =>
    refine SupplySound.controllerSlotFails ((h.faultSlot hp).congr ?_) i _
    exact answerJob_supply (s.faultSlot i) i _ _ _ _
  case isFalse => exact h

theorem settled_supply (s : State) (i : Slot) : (s.settled i).supply = s.supply := by
  unfold State.settled
  split
  case isTrue h => exact (requestNewRun_supply ..).trans (modSlot_supply (by rw [h]; rfl) (by rw [h]; simp))
  case isFalse => rfl

theorem SupplySound.restartDecision (h : SupplySound s) {i : Slot} (hl : (s.slot i).state ≠ .loading) :
    SupplySound (s.restartDecision i) := by
  refine (h.toCooling hl).congr (modSlot_keeps _ _ fun r => ?_)
  split <;> rfl

/-- What an expiry has the slot manager do before the power is removed leaves the supply alone (R127, R128, R131). -/
theorem expiry_supply (s : State) (i : Slot) (reason : FailReason) :
    ((s.setReason i reason).controllerExpiry i reason).supply = s.supply :=
  (controllerExpiry_supply ..).trans (setReason_supply ..)

theorem SupplySound.startFailed (h : SupplySound s) (i : Slot) : SupplySound (s.startFailed i) := by
  unfold State.startFailed
  split
  case isTrue hs =>
    refine (SupplySound.restartDecision (h.congr (expiry_supply s i _)) ?_).congr (answerJob_supply ..)
    rw [ne_eq, loading_of_supply (expiry_supply s i _), hs]
    simp
  case isFalse => exact h

theorem SupplySound.graceOver (h : SupplySound s) (i : Slot) : SupplySound (s.graceOver i) := by
  unfold State.graceOver
  split
  case isTrue hs =>
    refine SupplySound.restartDecision (h.congr (expiry_supply s i _)) ?_
    rw [ne_eq, loading_of_supply (expiry_supply s i _), hs]
    simp
  case isFalse => exact h

/-! #### The ends of transactions -/

theorem SupplySound.loaded (h : SupplySound s) {i : Slot} (hi : i ∉ s.loads) (hl : (s.slot i).state = .loading)
    (d : Descriptor) (cells : List CellNo) : SupplySound (s.loaded i d cells) := by
  unfold State.loaded
  extract_lets t u
  have hslot (k : Slot) : t.slot k = if k = i then { s.slot k with state := .off, restarts := d.allowance } else s.slot k :=
    modSlot_slot _ i k fun r => { r with state := .off, restarts := d.allowance }
  have ht : SupplySound t := h.unpower (i := i)
    (List.erase_of_not_mem (h.not_warm (by rw [hl]; rfl))).symm rfl (List.Sublist.refl _) hi
    (by rw [hslot, if_pos rfl]; rfl) (fun k hk => by rw [hslot, if_neg hk]) (fun k hk => PerSlot.get_set_other _ hk _)
  have hv : (u.completeAll cells .ok 0 [d.title, d.drawClass]).supply = t.supply :=
    (completeAll_supply ..).trans (setRatio_supply ..)
  have hoff := hslot i
  rw [if_pos rfl] at hoff
  refine ((ht.congr hv).checkPending ?_ ?_).ratioAnnounced _
  · rw [powered_of_supply hv, hoff]; rfl
  · rw [ne_eq, loading_of_supply hv, hoff]; simp

theorem SupplySound.loadFailed (h : SupplySound s) {i : Slot} (hi : i ∉ s.loads) (hl : (s.slot i).state = .loading)
    (u : Undescribed) (cells : List CellNo) : SupplySound (s.loadFailed i u cells) := by
  unfold State.loadFailed
  extract_lets t
  have hslot (k : Slot) : ((s.setUndescribed i u).modSlot i fun r => { r with state := .undescribed }).slot k =
      if k = i then { s.slot k with state := .undescribed } else s.slot k :=
    modSlot_slot _ i k fun r => { r with state := .undescribed }
  have hm : SupplySound ((s.setUndescribed i u).modSlot i fun r => { r with state := .undescribed }) :=
    h.unpower (i := i) (List.erase_of_not_mem (h.not_warm (by rw [hl]; rfl))).symm rfl (List.Sublist.refl _) hi
      (by rw [hslot, if_pos rfl]; rfl) (fun k hk => by rw [hslot, if_neg hk]) (fun _ _ => rfl)
  have ht : SupplySound t := hm.congr (completeAll_supply ..)
  split
  · exact ht.congr (failPending_supply ..)
  · exact ht

theorem serving_head {q : BusRequest} (hq : s.serving = some q) : s.bus.queue.head? = some q := by
  unfold State.serving at hq
  split at hq
  · cases hq
  all_goals exact hq

theorem running_serving {q : BusRequest} (hq : s.running = some q) : s.serving = some q := by
  unfold State.running at hq
  split at hq
  · cases hq
  · exact hq

theorem SupplySound.readDone (h : SupplySound s) {q : BusRequest} (hq : s.bus.queue.head? = some q) (bytes : List Byte) :
    SupplySound (s.readDone q bytes) := by
  unfold State.readDone
  split
  case isTrue hl =>
    obtain ⟨hi, hs⟩ := h.head_load hq hl
    split
    · exact h.dequeue.loadFailed hi hs _ _
    · exact h.dequeue.loaded hi hs _ _
  case isFalse => exact h.dequeue.congr (completeAll_supply ..)

theorem SupplySound.endRead (h : SupplySound s) (bytes : List Byte) : SupplySound (s.endRead bytes) := by
  unfold State.endRead
  split
  case h_1 q hq =>
    split
    · exact h.readDone (serving_head (running_serving hq)) bytes
    · exact h
  case h_2 => exact h

theorem SupplySound.endWrite (h : SupplySound s) (q : BusRequest) (r : Result) (n : Nat) :
    SupplySound (s.endWrite q r n) := (h.dequeue.writeEffect q).congr (completeAll_supply ..)

theorem SupplySound.polled (h : SupplySound s) (q : BusRequest) (n : Nat) (due : Stamp) (a : Bool) :
    SupplySound (s.polled q n due a) := by
  unfold State.polled
  split
  · exact h.endWrite ..
  · split
    · exact h.congr rfl
    · exact h.endWrite ..

theorem SupplySound.stopPolling (h : SupplySound s) (q : BusRequest) (n : Nat) (a : Bool) :
    SupplySound (s.stopPolling q n a) := by
  unfold State.stopPolling
  split
  · exact h.dequeue.writeEffect q
  · exact h.stopWrite q

theorem SupplySound.polledAtRestart (h : SupplySound s) (q : BusRequest) (n : Nat) (a : Bool) :
    SupplySound (s.polledAtRestart q n a) := by
  have ht := h.stopPolling q n a
  unfold State.polledAtRestart
  extract_lets
  split
  · exact ht.congr (endRestart_supply _)
  · exact ht

theorem advanceTo_supply (s : State) (t : Stamp) : (s.advanceTo t).supply = s.supply := by
  unfold State.advanceTo
  split <;> rfl

theorem SupplySound.poll (h : SupplySound s) (a : Bool) : SupplySound (s.poll a) := by
  unfold State.poll
  split
  · split
    · exact (h.congr (advanceTo_supply ..)).polledAtRestart ..
    · exact (h.congr (advanceTo_supply ..)).polled ..
  · exact h

theorem SupplySound.pollTimeout (h : SupplySound s) : SupplySound s.pollTimeout := by
  unfold State.pollTimeout
  split
  · split
    · exact h
    · exact h.poll _
  all_goals exact h

theorem SupplySound.readNack (h : SupplySound s) {q : BusRequest} (hq : s.bus.queue.head? = some q) :
    SupplySound (s.readNack q) := by
  unfold State.readNack
  split
  case isTrue hl =>
    obtain ⟨hi, hs⟩ := h.head_load hq hl
    exact h.dequeue.loadFailed hi hs _ _
  case isFalse => exact h.dequeue.congr (completeAll_supply ..)

theorem SupplySound.nack (h : SupplySound s) (point : AckPoint) : SupplySound (s.nack point) := by
  unfold State.nack
  split
  case h_1 q hq _ | h_2 q hq _ | h_3 q hq _ => exact h.readNack (serving_head (running_serving hq))
  case h_4 | h_5 => exact h.dequeue.congr (completeAll_supply ..)
  case h_6 =>
    split
    · exact (h.stopWrite _).congr (completeAll_supply ..)
    · exact h
  case h_7 => exact h

theorem startRequest_supply (s : State) : s.startRequest.supply = s.supply := by
  unfold State.startRequest
  split <;> rfl

theorem dataStop_supply (s : State) : s.dataStop.supply = s.supply := by
  unfold State.dataStop
  split <;> rfl

theorem recovered_supply (s : State) : s.recovered.supply = s.supply := by
  unfold State.recovered
  split
  · exact advanceTo_supply ..
  · rfl

/-! #### The soft restart -/

theorem keptRequests_loads (queue : List BusRequest) :
    ((keptRequests queue).filter BusRequest.isLoad).map BusRequest.slot =
      (queue.filter BusRequest.isLoad).map BusRequest.slot := by
  have hf (q : BusRequest) (hq : q ∈ queue.filter BusRequest.isLoad) :
      ({ q with cells := [] } : BusRequest).isLoad = true := by
    have := List.of_mem_filter hq
    exact this
  rw [keptRequests, List.filter_eq_self.2, List.map_map]
  · rfl
  · intro q hq
    obtain ⟨r, hr, rfl⟩ := List.mem_map.1 hq
    exact hf r hr

/-- The bus queue of a soft restart keeps the load requests (R63). -/
theorem kept_supply (s : State) : { s with bus.queue := keptRequests s.bus.queue }.supply = s.supply := by
  have hl : ({ s with bus.queue := keptRequests s.bus.queue } : State).loads = s.loads := keptRequests_loads s.bus.queue
  unfold State.supply
  rw [hl]
  rfl

theorem keptBehind_supply {q : BusRequest} (hq : s.bus.queue.head? = some q) :
    { s with bus.queue := q :: keptRequests s.bus.queue.tail }.supply = s.supply := by
  have hl : ({ s with bus.queue := q :: keptRequests s.bus.queue.tail } : State).loads = s.loads := by
    cases hs : s.bus.queue with
    | nil => simp [hs] at hq
    | cons a rest =>
      simp only [hs, List.head?_cons, Option.some.injEq] at hq
      subst hq
      simp only [State.loads, hs, List.tail_cons, List.filter_cons]
      split
      · rw [List.map_cons, List.map_cons, keptRequests_loads]
      · exact keptRequests_loads rest
  unfold State.supply
  rw [hl]
  rfl

theorem SupplySound.restartBus (h : SupplySound s) : SupplySound s.restartBus := by
  unfold State.restartBus
  split
  · exact h.congr (kept_supply s)
  case h_2 q hq =>
    have hk := h.congr (keptBehind_supply (serving_head hq))
    split
    · exact h.congr (kept_supply s)
    · extract_lets
      split
      · split
        · exact hk.congr rfl
        · exact hk.stopWrite q
      all_goals exact hk.congr rfl

theorem dropPowerJobs_supply (s : State) : s.dropPowerJobs.supply = s.supply := by
  have hd (l : List Slot) (u : State) : (l.foldl State.withdrawJob u).supply = u.supply := by
    induction l generalizing u with
    | nil => rfl
    | cons i l ih => exact (ih _).trans (withdrawJob_supply u i)
  exact hd _ s

theorem SupplySound.writeControl (h : SupplySound s) (v : Word) : SupplySound (s.writeControl v) := by
  unfold State.writeControl
  split
  · unfold State.startRestart
    extract_lets t u
    have hu : SupplySound u := SupplySound.restartBus
      (h.congr ((restartHandOver_supply _).trans (dropPowerJobs_supply t)))
    split
    · exact hu
    · exact hu.congr (endRestart_supply u)
  · exact h

theorem SupplySound.stopTransaction (h : SupplySound s) (b : Bool) : SupplySound (s.stopTransaction b) := by
  unfold State.stopTransaction
  split
  · exact h.dequeue
  · split
    · exact h.stopPolling ..
    all_goals
      split
      · exact h.stopWrite _
      · exact h.dequeue

theorem SupplySound.busStopped (h : SupplySound s) (b : Bool) : SupplySound (s.busStopped b) := by
  unfold State.busStopped
  split
  · refine SupplySound.congr ?_ (endRestart_supply _)
    split
    · exact h.stopTransaction b
    · exact h
  · exact h

end
end Sys2Proof.Machine
end

section
namespace Sys2Proof.Machine

/-! ### The supply under the host's writes, the jobs and the other events -/

section
variable {s t : State}

theorem foldl_supply {α : Type} {f : State → α → State} (hf : ∀ u a, (f u a).supply = u.supply) (l : List α)
    (u : State) : (l.foldl f u).supply = u.supply := by
  induction l generalizing u with
  | nil => rfl
  | cons a l ih => exact (ih _).trans (hf u a)

theorem writePost_supply (s : State) (v : Word) : (s.writePost v).supply = s.supply :=
  (foldl_supply (f := fun u c => u.intakeFault c s.postFault) (fun _ _ => rfl) _ _).trans
    (foldl_supply (f := State.postCell) (fun _ _ => rfl) _ s)

theorem writeDone_supply (s : State) (v : Word) : (s.writeDone v).supply = s.supply := by
  refine foldl_supply (fun u c => ?_) _ _
  unfold State.returnCell
  split <;> rfl

theorem SupplySound.writeRegister (h : SupplySound s) (r : Register) (v : Word) :
    SupplySound (s.writeRegister r v) := by
  cases r with
  | post => exact h.congr (writePost_supply s v)
  | done => exact h.congr (writeDone_supply s v)
  | notice => exact h.congr (by rfl)
  | noticeMask => exact h.congr (by rfl)
  | control => exact h.writeControl v
  | ident => exact h

theorem SupplySound.writeAt (h : SupplySound s) (addr : BitVec 13) (v : Word) : SupplySound (s.writeAt addr v) := by
  unfold State.writeAt
  split
  · exact h.writeRegister _ v
  · exact h.congr (by rfl)

theorem notePage_supply (s : State) (id : PageId) : (s.notePage id).supply = s.supply := by cases id <;> rfl

theorem pageStart_supply (s : State) (id : PageId) : (s.pageStart id).supply = s.supply := by
  unfold State.pageStart
  extract_lets
  split
  · exact notePage_supply ..
  · rfl

theorem pageEnd_supply (s : State) (id : PageId) : (s.pageEnd id).supply = s.supply := by
  unfold State.pageEnd
  extract_lets
  split <;> rfl

theorem SupplySound.takeIf (h : SupplySound s) {due : Job → Bool} {act : Job → State → State}
    (hact : ∀ j u, SupplySound u → SupplySound (act j u)) : SupplySound (s.takeIf due act) := by
  unfold State.takeIf
  split
  · exact h
  · split
    · exact hact _ _ (h.congr (by rfl))
    · exact h

/-- A job whose owner leaves the supply alone. -/
theorem SupplySound.takeIf_keeps (h : SupplySound s) {due : Job → Bool} {act : Job → State → State}
    (hact : ∀ j u, (act j u).supply = u.supply) : SupplySound (s.takeIf due act) :=
  h.takeIf fun j u hu => hu.congr (hact j u)

/-! #### The slot manager's jobs -/

theorem SupplySound.powerJob (h : SupplySound s) {act : Slot → Job → State → State}
    (hact : ∀ i j u, SupplySound u → SupplySound (act i j u)) (j : Job) : SupplySound (powerJob act j s) := by
  unfold Machine.powerJob
  split
  · exact h.congr (complete_supply ..)
  · split
    · exact h.congr (complete_supply ..)
    · exact hact _ _ _ h

theorem supersede_supply (s : State) (i : Slot) : (s.supersede i).supply = s.supply := by
  unfold State.supersede
  split
  · exact (withdrawJob_supply ..).trans (complete_supply ..)
  · rfl

theorem cancelPending_supply (s : State) (i : Slot) : (s.cancelPending i).supply = s.supply :=
  modSlot_keeps _ _ fun _ => rfl

/-- A slot that is not in LOADING goes to COOLING, its POWER job superseded before (R41, R43, R44). -/
theorem SupplySound.superseded_cooling (h : SupplySound s) {i : Slot} (hi : (s.slot i).state ≠ .loading) :
    SupplySound ((s.supersede i).toCooling i) :=
  (h.congr (supersede_supply s i)).toCooling (by rwa [ne_eq, loading_of_supply (supersede_supply s i)])

theorem SupplySound.powerOff (h : SupplySound s) (i : Slot) (j : Job) : SupplySound (s.powerOff i j) := by
  unfold State.powerOff
  split
  · exact h.congr (complete_supply ..)
  · unfold State.offByState
    split
    case h_1 e | h_2 e | h_3 e | h_4 e | h_5 e =>
      exact (h.superseded_cooling (by rw [e]; simp)).congr (complete_supply ..)
    case h_6 | h_7 =>
      exact h.congr ((complete_supply ..).trans ((cancelPending_supply ..).trans (supersede_supply ..)))
    case h_8 e => exact (h.reachOff (by rw [e]; rfl) (by rw [e]; simp)).congr (complete_supply ..)
    all_goals exact h.congr (complete_supply ..)

theorem answerPower_supply (s : State) (i : Slot) (c : CellNo) (a : Answer) :
    (s.answerPower i c a).supply = s.supply := by
  unfold State.answerPower
  split
  case h_6 => rfl
  all_goals exact complete_supply ..

theorem SupplySound.powerRequest (h : SupplySound s) (i : Slot) (j : Job) : SupplySound (s.powerRequest i j) :=
  (h.request ..).congr (answerPower_supply ..)

theorem SupplySound.powerOn (h : SupplySound s) (i : Slot) (j : Job) : SupplySound (s.powerOn i j) := by
  unfold State.powerOn
  split
  · exact h.congr (complete_supply ..)
  · exact h.powerRequest i j

theorem cycleThrough_supply (s : State) (i : Slot) (j : Job) : (s.cycleThrough i j).supply = s.supply :=
  (reloadRestarts_supply ..).trans (join_supply ..)

theorem SupplySound.powerCycle (h : SupplySound s) (i : Slot) (j : Job) : SupplySound (s.powerCycle i j) := by
  unfold State.powerCycle
  split
  · exact h.congr (complete_supply ..)
  · unfold State.cycleByState
    split
    case h_1 e | h_2 e | h_3 e | h_4 e | h_5 e =>
      exact (h.superseded_cooling (by rw [e]; simp)).congr (cycleThrough_supply ..)
    case h_6 => exact h.congr ((cycleThrough_supply ..).trans (supersede_supply ..))
    case h_7 =>
      split
      · exact h.congr ((cycleThrough_supply ..).trans (supersede_supply ..))
      · exact h.congr (complete_supply ..)
    case h_8 e => exact (h.toCooling (by rw [e]; simp)).congr (cycleThrough_supply ..)
    case h_9 => exact h.powerRequest i j
    all_goals exact h.congr (complete_supply ..)

theorem setPin_supply (b : Bool) (i : Slot) (j : Job) (s : State) : (s.setPin b i j).supply = s.supply := by
  unfold State.setPin
  split
  · exact complete_supply ..
  · exact (complete_supply ..).trans (modSlot_keeps _ _ fun _ => rfl)

/-- A new budget is not below the powered draw (R37). -/
theorem SupplySound.supplyJob (h : SupplySound s) (j : Job) : SupplySound (supplyJob j s) := by
  unfold Machine.supplyJob
  extract_lets b
  split
  · exact h.congr (complete_supply ..)
  case isFalse hb =>
    have hs : SupplySound { s.markCabinet with budget := b } :=
      ⟨h.once, h.warm, (Nat.le_of_not_lt fun hlt => hb (.inr (.inr hlt)) : s.draw ≤ b), h.loadOnce, h.loading⟩
    exact hs.congr (complete_supply ..)

/-! #### The jobs of the bus, the router, the credit unit, the audio unit and the generator -/

theorem SupplySound.reloadJob (h : SupplySound s) (j : Job) : SupplySound (reloadJob j s) := by
  unfold Machine.reloadJob
  split
  · exact h.congr (complete_supply ..)
  case h_2 i _ =>
    split
    case h_1 e | h_2 e => exact h.queueLoad (.inr rfl) (by rw [e]; rfl) (by rw [e]; simp) _
    case h_3 =>
      have hl : ({ s with bus.queue := s.bus.queue.map (attachCell i j.cell) } : State).loads = s.loads := by
        have hq (q : BusRequest) : (attachCell i j.cell q).isLoad = q.isLoad ∧ (attachCell i j.cell q).slot = q.slot := by
          unfold attachCell
          split <;> exact ⟨rfl, rfl⟩
        simp only [State.loads, List.filter_map, List.map_map]
        refine congrArg₂ _ (funext fun q => (hq q).2) (congrArg (fun p => List.filter p s.bus.queue) ?_)
        exact funext fun q => (hq q).1
      refine h.congr ?_
      unfold State.supply
      rw [hl]
      rfl
    all_goals exact h.congr (complete_supply ..)

theorem enqueue_supply {q : BusRequest} (hq : q.isLoad = false) (s : State) : (s.enqueue q).supply = s.supply := by
  have hl : (s.enqueue q).loads = s.loads := by
    have hb : (s.enqueue q).bus.queue = s.bus.queue ++ [q] := rfl
    rw [State.loads, hb, List.filter_append, List.filter_cons_of_neg (by simp [hq]), List.filter_nil, List.append_nil]
    rfl
  unfold State.supply
  rw [hl]
  rfl

theorem eepromChecks_supply {lengthOk : Nat → Nat → Bool} {act : Slot → Job → State → State}
    (hact : ∀ i j u, (act i j u).supply = u.supply) (j : Job) (s : State) :
    (eepromChecks lengthOk act j s).supply = s.supply := by
  unfold eepromChecks
  split
  · exact complete_supply ..
  · repeat' split
    any_goals exact complete_supply ..
    exact hact ..

theorem queueWrite_supply (i : Slot) (j : Job) (s : State) : (queueWrite i j s).supply = s.supply := by
  unfold queueWrite
  split
  · exact complete_supply ..
  · exact enqueue_supply rfl s

theorem judgeMap_supply (s : State) (i : Slot) (c : CellNo) : (s.judgeMap i c).supply = s.supply := by
  have hsup : (s.supersedeMap i).supply = s.supply := by
    unfold State.supersedeMap
    split
    · exact complete_supply ..
    · rfl
  unfold State.judgeMap
  split
  · exact complete_supply ..
  · unfold State.acceptMap
    split
    · exact hsup
    · exact complete_supply ..

theorem loadMapJob_supply (j : Job) (s : State) : (loadMapJob j s).supply = s.supply := by
  unfold loadMapJob
  split
  · exact complete_supply ..
  · split
    case h_1 | h_2 | h_3 => exact complete_supply ..
    all_goals exact judgeMap_supply ..

theorem creditJob_supply {act : Job → State → State} (hact : ∀ j u, (act j u).supply = u.supply) (j : Job) (s : State) :
    (creditJob act j s).supply = s.supply := by
  unfold creditJob
  split
  · exact complete_supply ..
  · exact hact j s

theorem amountJob_supply {act : Job → State → State} (hact : ∀ j u, (act j u).supply = u.supply) (j : Job) (s : State) :
    (amountJob act j s).supply = s.supply := by
  unfold amountJob
  split
  · exact complete_supply ..
  · exact hact j s

theorem grantJob_supply (j : Job) (s : State) : (grantJob j s).supply = s.supply := complete_supply ..

theorem withdrawCredit_supply (j : Job) (s : State) : (withdrawCredit j s).supply = s.supply := complete_supply ..

theorem deliverJob_supply (j : Job) (s : State) : (deliverJob j s).supply = s.supply := by
  unfold deliverJob
  split
  · split <;> exact complete_supply ..
  all_goals exact complete_supply ..

theorem recallJob_supply (j : Job) (s : State) : (recallJob j s).supply = s.supply := by
  unfold recallJob
  split <;> exact complete_supply ..

theorem coinJob_supply (j : Job) (s : State) : (coinJob j s).supply = s.supply := by
  unfold coinJob
  split <;> exact complete_supply ..

theorem setItem_supply (s : State) (item : Nat) (src : Source) (v : Nat) : (s.setItem item src v).supply = s.supply := by
  unfold State.setItem
  repeat' split
  all_goals rfl

theorem SupplySound.levelsJob (h : SupplySound s) (j : Job) : SupplySound (levelsJob j s) := by
  have hset (c : CellNo) (item : Nat) (src : Source) (v : Nat) : SupplySound (s.setLevel c item src v) := by
    unfold State.setLevel
    extract_lets v moves t u
    have hu : SupplySound u := by
      refine h.congr ((complete_supply ..).trans ?_)
      unfold t
      split
      · exact (recomputeAudio_supply _).trans (setItem_supply ..)
      · exact setItem_supply ..
    split
    · exact hu.levelReached
    · exact hu
  unfold Machine.levelsJob
  split
  · exact h.congr (complete_supply ..)
  · split
    · exact hset ..
    · split
      · exact h.congr (complete_supply ..)
      · exact hset ..

theorem monitorJob_supply (j : Job) (s : State) : (monitorJob j s).supply = s.supply := by
  unfold monitorJob
  split <;> exact complete_supply ..

theorem glideJob_supply (j : Job) (s : State) : (glideJob j s).supply = s.supply := by
  unfold glideJob
  split <;> exact complete_supply ..

theorem chordJob_supply (j : Job) (s : State) : (chordJob j s).supply = s.supply := by
  unfold chordJob
  extract_lets
  repeat' split
  all_goals exact complete_supply ..

theorem SupplySound.switchJob (h : SupplySound s) (j : Job) : SupplySound (switchJob j s) := by
  unfold Machine.switchJob
  split
  · exact h.congr (complete_supply ..)
  · exact h.takeSwitch _

theorem abortWaiting_supply (s : State) : s.abortWaiting.supply = s.supply := by
  unfold State.abortWaiting
  split
  · exact complete_supply ..
  · rfl

theorem abortJob_supply (j : Job) (s : State) : (abortJob j s).supply = s.supply := by
  unfold abortJob
  split
  case h_1 | h_2 => exact complete_supply ..
  case h_3 | h_4 => exact (complete_supply ..).trans ((cancel_supply _).trans (completeActive_supply ..))
  case h_5 | h_6 | h_7 => exact (complete_supply ..).trans ((chooseAnew_supply _).trans (completeActive_supply ..))
  case h_8 => exact (complete_supply ..).trans (abortWaiting_supply s)

/-! #### Sync, the generator, the router and the coin lines -/

theorem SupplySound.signalIf (h : SupplySound s) (src : Source) (e : Option SyncEvent) :
    SupplySound (s.signalIf src e) := by
  have hslot (e : SyncEvent) : ((s.markSource src).slotEvent src e).supply = s.supply := by
    unfold State.slotEvent
    split
    · exact slotStable_supply ..
    · exact enterLost_supply ..
    · exact enterLost_supply ..
    · rfl
  unfold State.signalIf
  split
  case h_1 e =>
    unfold State.signal State.controllerEvent
    split
    · split
      · exact h.congr ((judge_supply _).trans (hslot _))
      · exact h.congr (hslot _)
    · exact (h.congr (hslot _)).controllerLoses ..
    · exact (h.congr (hslot _)).controllerLoses ..
  case h_2 => exact h

theorem SupplySound.announce (h : SupplySound s) (src : Source) (stamp : Stamp) : SupplySound (s.announce src stamp) := by
  unfold State.announce
  extract_lets u
  have hu : SupplySound u := h.congr (by rfl)
  split
  · exact hu.congr (releaseHandled_supply _)
  · split
    · exact SupplySound.cutHandled (hu.congr (by rfl)) ..
    · exact hu

theorem hsyncAt_supply (s : State) (src : Source) (stamp : Stamp) : (s.hsyncAt src stamp).supply = s.supply :=
  advanceTo_supply s stamp

theorem noteVertical_supply (s : State) (src : Source) (input : SyncInput) (stamp : Stamp) :
    (s.noteVertical src input stamp).supply = s.supply := by
  unfold State.noteVertical
  split
  · split <;> rfl
  · rfl

theorem vsyncRecord_supply (s : State) (src : Source) (o : VsyncOutcome) : (s.vsyncRecord src o).supply = s.supply := by
  unfold State.vsyncRecord
  extract_lets
  split <;> rfl

theorem SupplySound.vsyncTaken (h : SupplySound s) (src : Source) (input : SyncInput) (stamp : Stamp) :
    SupplySound (s.vsyncTaken src input stamp) := by
  unfold State.vsyncTaken
  extract_lets r o u
  have hu : SupplySound u := by
    refine SupplySound.signalIf (h.congr ?_) ..
    exact (vsyncRecord_supply ..).trans ((advanceTo_supply ..).trans (noteVertical_supply ..))
  split
  · exact hu.announce ..
  · exact hu

theorem takeCoincident_supply (s : State) (src : Source) (input : SyncInput) (stamp : Stamp) :
    (s.takeCoincident src input stamp).supply = s.supply := by
  unfold State.takeCoincident
  split
  · split
    · exact hsyncAt_supply ..
    · rfl
  · rfl

theorem SupplySound.vsyncAt (h : SupplySound s) (src : Source) (input : SyncInput) (p : SyncPulse) :
    SupplySound (s.vsyncAt src input p) := by
  unfold State.vsyncAt
  split
  · split
    · exact h.congr (advanceTo_supply ..)
    · exact (h.congr (takeCoincident_supply ..)).vsyncTaken ..
  · exact h

theorem SupplySound.polarityAt (h : SupplySound s) (src : Source) (input : SyncInput) :
    SupplySound (s.polarityAt src input) := by
  unfold State.polarityAt
  split
  · exact SupplySound.signalIf (h.congr (by rfl)) ..
  · exact h

theorem SupplySound.lossOf (h : SupplySound s) (src : Source) : SupplySound (s.lossOf src) := by
  unfold State.lossOf
  split
  · exact SupplySound.signalIf (h.congr (by rfl)) src (some .noSync)
  · exact h

theorem startLine_supply (s : State) : s.startLine.supply = s.supply := by
  unfold State.startLine
  split
  · exact advanceTo_supply ..
  · rfl

theorem endFrame_supply (s : State) : s.endFrame.supply = s.supply := by
  unfold State.endFrame
  split
  · exact (onFinding_supply ..).trans ((countFrame_supply _).trans (advanceTo_supply ..))
  · rfl

theorem releaseTimeout_supply (s : State) : s.releaseTimeout.supply = s.supply := by
  unfold State.releaseTimeout
  split
  · exact releaseHandled_supply _
  · rfl

theorem settlePins_supply (s : State) : s.settlePins.supply = s.supply := by
  unfold State.settlePins
  split <;> rfl

theorem activated_supply (s : State) (l : Line) : (s.activated l).supply = s.supply := by
  cases l with
  | input i => rfl
  | service => exact routeUnit_supply _
  | operatorKey => rfl

theorem lineOn_supply (s : State) (l : Line) : (s.lineOn l).supply = s.supply := by
  unfold State.lineOn
  split
  · rfl
  · exact (settlePins_supply _).trans (activated_supply ..)

theorem lineOff_supply (s : State) (l : Line) : (s.lineOff l).supply = s.supply := by
  unfold State.lineOff
  split
  · exact settlePins_supply _
  · rfl

theorem installPending_supply (s : State) (i : Slot) : (s.installPending i).supply = s.supply := by
  unfold State.installPending
  split
  · rfl
  · exact (settlePins_supply _).trans (complete_supply ..)

theorem stepEntry_supply (s : State) (k m : Nat) (f : MapEntry → EntryPhase → EntryPhase) :
    (s.stepEntry k m f).supply = s.supply := by
  unfold State.stepEntry
  split
  · rfl
  · exact settlePins_supply _

theorem exitChord_supply (s : State) : s.exitChord.supply = s.supply := by
  unfold State.exitChord
  split
  · split
    · split
      · exact chordFallback_supply ..
      · rfl
    · rfl
  all_goals rfl

theorem coinEnd_supply (s : State) (l : CoinLine) : (s.coinEnd l).supply = s.supply := by
  have ht : ({ s.sampleCoin l false with credit := s.credit.setLine l .idle } : State).supply = s.supply :=
    sampleCoin_supply s l false
  unfold State.coinEnd
  extract_lets
  split
  · rfl
  · exact ht
  · split
    · exact (coinUnits_supply ..).trans ht
    · exact ht

theorem coinBegin_supply (s : State) (l : CoinLine) : (s.coinBegin l).supply = s.supply := by
  unfold State.coinBegin
  split
  · exact sampleCoin_supply s l true
  · rfl

theorem coinJammed_supply (s : State) (l : CoinLine) : (s.coinJammed l).supply = s.supply := by
  unfold State.coinJammed
  split
  · exact sampleCoin_supply s l true
  all_goals rfl

theorem pulseStart_supply (s : State) (i : Slot) : (s.pulseStart i).supply = s.supply := by
  unfold State.pulseStart
  split
  · split <;> rfl
  · rfl

theorem meterStart_supply (s : State) : s.meterStart.supply = s.supply := by
  unfold State.meterStart
  split <;> rfl

theorem SupplySound.rampTick (h : SupplySound s) : SupplySound s.rampTick := by
  unfold State.rampTick
  split
  · exact (h.congr (rampOnce_supply s)).levelReached
  · exact h

/-! ### The step -/

theorem countTick_slot (s : State) (i : Slot) :
    s.countTick.slot i = (s.slot i).tick (s.pins.presence.get i) (s.pins.overcurrent.get i) :=
  PerSlot.get_ofFn (fun k => (s.slot k).tick (s.pins.presence.get k) (s.pins.overcurrent.get k)) i

theorem countTick_supply (s : State) : s.countTick.supply = s.supply := by
  unfold State.supply
  simp only [countTick_slot]
  rfl

/-- What the part does by itself counts and queues: the supply stands. -/
theorem idle_supply (s : State) : s.idle.supply = s.supply := by
  unfold State.idle
  split
  case h_10 =>
    split
    · exact countTick_supply s
    · rfl
  all_goals rfl

/-- The end of a command adds marks alone. -/
theorem SupplySound.finish {old new t : State} (h : SupplySound new) (e : finish old new = .next t) : SupplySound t := by
  cases e
  exact h.congr (by rfl)

/-- Every command keeps the supply sound: a slot is powered after its check alone, and a load is queued for a slot that goes
to LOADING with it. -/
theorem SupplySound.exec {s t : State} (h : SupplySound s) (c : Instr) (e : exec c s = .next t) : SupplySound t := by
  cases c with
  | windowWrite addr v => exact (h.writeAt addr v).finish e
  | post v => exact (h.congr (writePost_supply s v)).finish e
  | done v => exact (h.congr (writeDone_supply s v)).finish e
  | notice v => exact (h.writeRegister .notice v).finish e
  | noticeMask v => exact (h.writeRegister .noticeMask v).finish e
  | writeNoEffect r v => exact h.finish e
  | softRestart v => exact (h.writeControl v).finish e
  | softRestartEnd b => exact (h.busStopped b).finish e
  | powerOnReset =>
    cases e
    exact resetMeetsInvariants.2.2.2.2.1.congr (by rfl)
  | unknownKind | setupBadGroup => exact (h.takeIf_keeps fun j u => complete_supply ..).finish e
  | switch => exact (h.takeIf fun j u hu => hu.switchJob j).finish e
  | abort => exact (h.takeIf_keeps abortJob_supply).finish e
  | powerOff => exact (h.takeIf fun j u hu => hu.powerJob (fun i j u hu => hu.powerOff i j) j).finish e
  | powerOn => exact (h.takeIf fun j u hu => hu.powerJob (fun i j u hu => hu.powerOn i j) j).finish e
  | powerCycle => exact (h.takeIf fun j u hu => hu.powerJob (fun i j u hu => hu.powerCycle i j) j).finish e
  | pin | unpin =>
    exact (h.takeIf fun j u hu => hu.powerJob (fun i j u hu => hu.congr (setPin_supply _ i j u)) j).finish e
  | loadMap => exact (h.takeIf_keeps loadMapJob_supply).finish e
  | creditGrant => exact (h.takeIf_keeps (creditJob_supply (amountJob_supply grantJob_supply))).finish e
  | creditWithdraw => exact (h.takeIf_keeps (creditJob_supply (amountJob_supply withdrawCredit_supply))).finish e
  | creditDeliver => exact (h.takeIf_keeps (creditJob_supply (amountJob_supply deliverJob_supply))).finish e
  | creditRecall => exact (h.takeIf_keeps (creditJob_supply recallJob_supply)).finish e
  | setLevels => exact (h.takeIf fun j u hu => hu.levelsJob j).finish e
  | setupMonitor => exact (h.takeIf_keeps monitorJob_supply).finish e
  | setupGlide => exact (h.takeIf_keeps glideJob_supply).finish e
  | setupChord => exact (h.takeIf_keeps chordJob_supply).finish e
  | setupCoin => exact (h.takeIf_keeps coinJob_supply).finish e
  | setupSupply => exact (h.takeIf fun j u hu => hu.supplyJob j).finish e
  | eepromRead => exact (h.takeIf_keeps (eepromChecks_supply fun i j u => enqueue_supply rfl u)).finish e
  | eepromWrite => exact (h.takeIf_keeps (eepromChecks_supply queueWrite_supply)).finish e
  | reload => exact (h.takeIf fun j u hu => hu.reloadJob j).finish e
  | pageUpdateStart id => exact (h.congr (pageStart_supply s id)).finish e
  | pageUpdateEnd id => exact (h.congr (pageEnd_supply s id)).finish e
  | presenceDetected i => exact (h.presence i).finish e
  | removal i => exact (h.removeSlot i).finish e
  | overcurrent i => exact (h.overcurrent i).finish e
  | settleTimerExpiry i => exact (h.congr (settled_supply s i)).finish e
  | startTimerExpiry i => exact (h.startFailed i).finish e
  | graceTimerExpiry i => exact (h.graceOver i).finish e
  | coolTimerExpiry i => exact (h.cooled i).finish e
  | busRequestStart => exact (h.congr (startRequest_supply s)).finish e
  | readTransactionEnd bytes => exact (h.endRead bytes).finish e
  | writeDataStop => exact (h.congr (dataStop_supply s)).finish e
  | ackPoll a => exact (h.poll a).finish e
  | writeTimeout => exact h.pollTimeout.finish e
  | ackMissing p => exact (h.nack p).finish e
  | writeRecoveryEnd => exact (h.congr (recovered_supply s)).finish e
  | hsyncLeadingEdge src stamp => exact (h.congr (hsyncAt_supply s src stamp)).finish e
  | vsyncLeadingEdge src input p => exact (h.vsyncAt src input p).finish e
  | polarityChange src input => exact (h.polarityAt src input).finish e
  | hsyncLoss src | vsyncLoss src => exact (h.lossOf src).finish e
  | holdingLineStart => exact (h.congr (startLine_supply s)).finish e
  | holdingFrameEnd => exact (h.congr (endFrame_supply s)).finish e
  | releaseTimerExpiry => exact (h.congr (releaseTimeout_supply s)).finish e
  | lineActivation l => exact (h.congr (lineOn_supply s l)).finish e
  | lineRelease l => exact (h.congr (lineOff_supply s l)).finish e
  | mapInstall i => exact (h.congr (installPending_supply s i)).finish e
  | pulseEntryEnd k n | autofireOnEnd k n | autofireOffEnd k n => exact (h.congr (stepEntry_supply s k n.val _)).finish e
  | exitChord => exact (h.congr (exitChord_supply s)).finish e
  | coinMeasuringBegins l => exact (h.congr (coinBegin_supply s l)).finish e
  | coinPulseEnd l => exact (h.congr (coinEnd_supply s l)).finish e
  | coinJam l => exact (h.congr (coinJammed_supply s l)).finish e
  | coinPulseStart i => exact (h.congr (pulseStart_supply s i)).finish e
  | coinPulseOnEnd i => exact (h.congr (by rfl) : SupplySound (s.pulseOnEnd i)).finish e
  | coinPulseOffEnd i => exact (h.congr (by rfl) : SupplySound (s.pulseOffEnd i)).finish e
  | meterPulseStart => exact (h.congr (meterStart_supply s)).finish e
  | meterPulseOnEnd =>
    exact (h.congr (by rfl) : SupplySound { s with credit.meter := s.credit.meter.map Pulse.rest }).finish e
  | meterPulseOffEnd =>
    exact (h.congr (by rfl) : SupplySound { s with credit.meter := s.credit.meter.bind Pulse.ended }).finish e
  | rampStep => exact h.rampTick.finish e

/-- Settles O7: a step is the front command on the rest of the queue, or the part's own idling. -/
theorem stepKeepsSupplySound : Obligations.StepKeepsSupplySound := by
  intro s t h e
  unfold step at e
  split at e
  case h_1 c rest _ => exact SupplySound.exec (h.congr (by rfl) : SupplySound { s with pending := rest }) c e
  case h_2 => exact (h.congr (idle_supply s)).finish e

end
end Sys2Proof.Machine
end

section
namespace Sys2Proof.Machine

/-! ### The ms tick (R22, R30, R34, R128, R129) -/

/-- With nothing due at once, an idle part at the start of a scan counts an ms tick. -/
theorem idle_tick {s : State} (hs : s.scan = 0) (hd : s.dueNow = []) : s.idle = s.countTick.stage 1 [] := by
  simp only [State.idle, hs, hd, if_true]

/-- Settles O3. -/
theorem tickCountsTimers : Obligations.TickCountsTimers := by
  intro s hp hs hd
  have hstep : step s = finish s (s.countTick.stage 1 []) := by
    simp only [step, hp, idle_tick hs hd]
  refine ⟨_, hstep.trans (finish_eq ..), rfl, ?_, rfl, rfl, rfl, rfl, fun i => ?_⟩
  · have hm : (s.sync.tick s.pins).mtick = s.sync.counterAt (nextTick s.sync.tickAt) := by
      simp only [Sync.tick]
    have hn : nextTick s.sync.tickAt = s.sync.tickAt + 24000 := rfl
    rw [hn] at hm
    exact hm.trans (if_congr decide_eq_true_iff rfl rfl)
  · have ht : ∀ p, ({ s.countTick.stage 1 [] with pages := p } : State).slot i =
        (s.slot i).tick (s.pins.presence.get i) (s.pins.overcurrent.get i) := fun _ => countTick_slot s i
    rw [ht]
    exact ⟨rfl, rfl, rfl, rfl, rfl⟩

/-! ### Marks alone (R14) -/

theorem OnlyMarks.refl (s : State) : OnlyMarks s s := fun _ => ⟨rfl, id⟩

theorem OnlyMarks.trans {s t u : State} (h : OnlyMarks s t) (k : OnlyMarks t u) : OnlyMarks s u := fun id =>
  ⟨(k id).1.trans (h id).1, fun hm => (k id).2 ((h id).2 hm)⟩

/-- Only the pages are read. -/
theorem OnlyMarks.congr {s t u : State} (h : OnlyMarks s t) (e : u.pages = t.pages) : OnlyMarks s u := fun id => by
  rw [e]; exact h id

theorem OnlyMarks.mark {s t : State} (h : OnlyMarks s t) (id : PageId) : OnlyMarks s (t.mark id) :=
  h.trans fun other => ⟨mark_count t id other, mark_keeps t id other⟩

theorem OnlyMarks.finish {s t : State} (h : OnlyMarks s t) : OnlyMarks s { t with pages := remarkPages s t } :=
  onlyMarks_remark h

/-! ### Changes of a slot's record -/

theorem modSlot_slots (s : State) (i : Slot) (f : SlotRec → SlotRec) :
    (s.modSlot i f).slots = s.slots.set i (f (s.slot i)) := rfl

theorem modSlot_slot_same (s : State) (i : Slot) (f : SlotRec → SlotRec) : (s.modSlot i f).slot i = f (s.slot i) :=
  PerSlot.get_set_same ..

theorem modSlot_slot_other (s : State) {i k : Slot} (h : k ≠ i) (f : SlotRec → SlotRec) :
    (s.modSlot i f).slot k = s.slot k := PerSlot.get_set_other _ h _

/-- Two changes of a slot's record, one after the other. -/
theorem modSlot_modSlot (s : State) (i : Slot) (f g : SlotRec → SlotRec) :
    (s.modSlot i f).modSlot i g = s.modSlot i fun r => g (f r) := by
  have hs : ((s.modSlot i f).modSlot i g).slots = (s.modSlot i fun r => g (f r)).slots := by
    rw [modSlot_slots, modSlot_slot_same, modSlot_slots, PerSlot.set_set]
    rfl
  exact congrArg (fun l : PerSlot SlotRec => { s with slots := l }) hs

theorem reloadRestarts_some {s : State} {i : Slot} {d : Descriptor} (h : s.copy i = some d) :
    s.reloadRestarts i = s.modSlot i fun r => { r with restarts := d.allowance } := by
  simp only [State.reloadRestarts, h]

theorem figure_some {s : State} {i : Slot} {d : Descriptor} (h : s.copy i = some d) (f : Descriptor → Nat) :
    s.figure i f = f d := by
  simp only [State.figure, h]

theorem drawClass_some {s : State} {i : Slot} {d : Descriptor} (h : s.copy i = some d) :
    s.drawClass i = d.drawClass := by
  simp only [State.drawClass, h]

/-! ### POWER jobs and SETUP SUPPLY at their take (R37, R39 to R43) -/

/-- A POWER job of a row's own action is the row's. -/
theorem isPower_due {s : State} {j : Job} {a : Nat} (hj : NextJob s j 3) (ha : j.word 3 = a) : Job.isPower a j = true := by
  simp [Job.isPower, Job.isKind, hj.2.2, ha]

/-- A POWER job that names a slot and an action is the slot manager's to judge (R40). -/
theorem powerJob_slot {act : Slot → Job → State → State} {j : Job} {i : Slot} (hi : Slot.ofNumber (j.word 2) = some i)
    (ha : j.word 3 ≤ 4) (s : State) : powerJob act j s = act i j s := by
  simp only [powerJob, hi, Nat.not_lt.2 ha, if_false]

section
variable {s : State} {j : Job} {i : Slot} {act : Slot → Job → State → State} {a : Nat}

/-- A POWER job refused by its action ends at its take, its words 18 to 20 the slot's state code, no evicted slot and the
powered draw (R40). -/
theorem power_refused (hj : NextJob s j 3) (hi : Slot.ofNumber (j.word 2) = some i) (ha : j.word 3 = a) (h4 : a ≤ 4)
    {r : Result} {detail : Nat}
    (hact : act i j (s.take j.cell) = (s.take j.cell).completePower j.cell i r detail 0) :
    ∃ t, finish s (s.takeIf (Job.isPower a) (powerJob act)) = .next t ∧
      EndsAtTake s t j r detail [(s.slot i).state.code, 0, s.draw] ∧
      t = { s with window := t.window, intake := t.intake, pages := t.pages } :=
  refused_at_take hj.1 hj.2.1 (isPower_due hj ha) ((powerJob_slot hi (ha ▸ h4) _).trans hact)

/-- A POWER job completed by its action once this has made the state `m`. -/
theorem power_ended {m : State} (hj : NextJob s j 3) (hi : Slot.ofNumber (j.word 2) = some i) (ha : j.word 3 = a)
    (h4 : a ≤ 4) {r : Result} {detail : Nat} {mask : Word}
    (hact : act i j (s.take j.cell) = m.completePower j.cell i r detail mask) (hwin : m.window = s.window)
    (hint : m.intake = (s.take j.cell).intake) (hpages : OnlyMarks s m) :
    ∃ w n p, finish s (s.takeIf (Job.isPower a) (powerJob act)) = .next { m with window := w, intake := n, pages := p } ∧
      EndsAtTake s { m with window := w, intake := n, pages := p } j r detail
        [(m.slot i).state.code, mask.toNat, m.draw] := by
  obtain ⟨w, n, p, he, hend, -⟩ := ended_at_take (act := powerJob act) hj.1 hj.2.1 (isPower_due hj ha)
    ((powerJob_slot hi (ha ▸ h4) _).trans hact) hwin hint hpages
  exact ⟨w, n, p, he, hend⟩

/-- A job that its owner keeps, once the owner has made the state `m`. -/
theorem waits_at_take {m : State} {due : Job → Bool} {act : Job → State → State} (hj : s.headJob = some j)
    (hd : due j = true) (hact : act j (s.take j.cell) = m) (hwin : m.window = s.window)
    (hint : m.intake = (s.take j.cell).intake) (hpages : OnlyMarks s m) :
    ∃ p, finish s (s.takeIf due act) = .next { m with pages := p } ∧ WaitsWithOwner s { m with pages := p } j ∧
      ∀ id, (m.pages.get id).mark = true → (p.get id).mark = true := by
  refine ⟨remarkPages s m, ?_, waits_with_owner hwin hint hpages, fun id => remarkPages_keeps s m id⟩
  rw [takeIf_due hj hd, hact]
  rfl

end

/-- POWER OFF removes the power of a powered slot (R41). -/
theorem offByState_powered {s : State} {i : Slot} (hp : (s.slot i).state.powered = true) (c : CellNo) :
    s.offByState i c = ((s.supersede i).toCooling i).completePower c i .ok 0 0 := by
  unfold State.offByState
  split
  case h_1 | h_2 | h_3 | h_4 | h_5 => rfl
  all_goals
    rename_i h
    rw [h] at hp
    cases hp

/-- With no POWER job in flight there is none to supersede (R44). -/
theorem supersede_none {s : State} {i : Slot} (h : (s.slot i).jobCell = none) : s.supersede i = s := by
  simp only [State.supersede, h]

theorem powerOff_cools {s : State} {i : Slot} (hinv : s.involved i = false) (hp : (s.slot i).state.powered = true)
    (hjob : (s.slot i).jobCell = none) (j : Job) :
    s.powerOff i j = (s.toCooling i).completePower j.cell i .ok 0 0 := by
  rw [State.powerOff, if_neg (by rw [hinv]; exact Bool.false_ne_true), offByState_powered hp, supersede_none hjob]

/-- Settles O24. -/
theorem powerOffResult : Obligations.PowerOffResult := by
  intro s j i hj hi
  refine ⟨fun ha hinv hp hjob => ?_, fun hinv => ⟨fun ha => ?_, fun ha => ?_⟩⟩
  · let m := (s.take j.cell).toCooling i
    have hcool : m.slot i = (s.slot i).cooling (s.figure i Descriptor.cool * 100) :=
      (toCooling_slot (s.take j.cell) i i).trans (if_pos rfl)
    have hother : ∀ k, k ≠ i → m.slot k = s.slot k := fun k hk =>
      (toCooling_slot (s.take j.cell) i k).trans (if_neg hk)
    obtain ⟨w, n, p, he, hend⟩ := power_ended hj hi ha (by decide)
      (powerOff_cools (s := s.take j.cell) hinv hp hjob j) rfl rfl (OnlyMarks.refl s)
    refine ⟨_, he, ?_, hcool, hother, rfl, ?_, ?_, toCooling_draw (s := s.take j.cell) hp, rfl⟩
    · rw [hcool] at hend
      exact hend
    · exact congrArg (fun r => r.state.powered) hcool
    · exact congrArg (fun r => !r.state.resetReleased) hcool
  · exact power_refused hj hi ha (by decide) (if_pos hinv)
  · exact power_refused hj hi ha (by decide) (if_pos hinv)

/-- The record of a slot that a POWER job has sent through COOLING to be powered again (R43, R134). -/
def SlotRec.requested (d : Descriptor) (q : Requester) (r : SlotRec) : SlotRec :=
  { SlotRec.join q r with restarts := d.allowance }

/-- An accepted request joins the slot's power-up and reloads its restarts (R27, R134). -/
theorem join_reload {s : State} {i : Slot} {d : Descriptor} (h : s.copy i = some d) (q : Requester) :
    (s.modSlot i (SlotRec.join q)).reloadRestarts i = s.modSlot i (SlotRec.requested d q) :=
  (reloadRestarts_some (s := s.modSlot i (SlotRec.join q)) h).trans (modSlot_modSlot ..)

theorem requested_supply (s : State) (i : Slot) (d : Descriptor) (q : Requester) :
    (s.modSlot i (SlotRec.requested d q)).supply = s.supply := modSlot_keeps _ _ fun _ => rfl

theorem powerCycle_running {s : State} {i : Slot} {d : Descriptor} (hinv : s.involved i = false)
    (hrun : (s.slot i).state = .running) (hup : (s.slot i).powerUp = none) (hcopy : s.copy i = some d) (j : Job) :
    s.powerCycle i j = (s.toCooling i).modSlot i (SlotRec.requested d (.job j.cell (j.bit 4 0))) := by
  have hjob : (s.slot i).jobCell = none := by rw [SlotRec.jobCell, hup]; rfl
  rw [State.powerCycle, if_neg (by rw [hinv]; exact Bool.false_ne_true)]
  simp only [State.cycleByState, hrun]
  rw [supersede_none hjob]
  exact join_reload (s := s.toCooling i) hcopy _

/-- Settles O26. -/
theorem powerCycleRunning : Obligations.PowerCycleRunning := by
  intro s j i d hj ha hi hinv hrun hup hcopy
  let u := s.take j.cell
  let m := (u.toCooling i).modSlot i (SlotRec.requested d (.job j.cell (j.bit 4 0)))
  obtain ⟨p, he, hwait, -⟩ := waits_at_take (m := m) hj.2.1 (isPower_due hj ha)
    ((powerJob_slot hi (by omega) u).trans (powerCycle_running (s := u) hinv hrun hup hcopy j)) rfl rfl (OnlyMarks.refl s)
  have hfig : u.figure i Descriptor.cool = d.cool := figure_some hcopy _
  have hslot : m.slot i = ((s.slot i).cooling (d.cool * 100)).requested d (.job j.cell (j.bit 4 0)) := by
    rw [modSlot_slot_same, toCooling_slot, if_pos rfl, hfig]
    rfl
  have hother : ∀ k, k ≠ i → m.slot k = s.slot k := fun k hk => by
    rw [modSlot_slot_other _ hk, toCooling_slot, if_neg hk]
    rfl
  have hdraw : m.draw + d.drawClass = s.draw := by
    rw [draw_of_supply (requested_supply ..), ← drawClass_some hcopy]
    exact toCooling_draw (s := u) (powered_of_running hrun)
  exact ⟨_, he, hwait, hslot, hother, rfl, hdraw, rfl⟩

/-- Settles O27: the two rows are one action with the flag they set. -/
theorem pinAndUnpin : Obligations.PinAndUnpin := by
  intro s j i b hj hi ha
  have hrow : exec (if b then .pin else .unpin) s =
      finish s (s.takeIf (Job.isPower (if b then 3 else 4)) (powerJob (State.setPin b))) := by cases b <;> rfl
  have h4 : (if b then 3 else 4) ≤ 4 := by cases b <;> decide
  dsimp only
  rw [hrow]
  refine ⟨fun hs => ?_, fun hs => ?_⟩
  · let m := (s.take j.cell).modSlot i fun r => { r with pinned := b }
    obtain ⟨w, n, p, he, hend⟩ := power_ended (act := State.setPin b) (m := m) hj hi ha h4
      (if_neg (c := ((s.take j.cell).slot i).state = .empty) hs) rfl rfl (OnlyMarks.refl s)
    have hslot : m.slot i = { s.slot i with pinned := b } := modSlot_slot_same ..
    have hother : ∀ k, k ≠ i → m.slot k = s.slot k := fun k hk => modSlot_slot_other _ hk _
    have hdraw : m.draw = s.draw := draw_of_supply (modSlot_keeps _ _ fun _ => rfl)
    refine ⟨_, he, ?_, hslot, hother, rfl⟩
    rw [hslot, hdraw] at hend
    exact hend
  · obtain ⟨t, he, hend, hframe⟩ := power_refused (act := State.setPin b) hj hi ha h4
      (if_pos (c := ((s.take j.cell).slot i).state = .empty) hs)
    rw [hs] at hend
    exact ⟨t, he, hend, hframe⟩

/-- Settles O28. -/
theorem supplyBudgetSet : Obligations.SupplyBudgetSet := by
  intro s j hj hg
  have hd : Job.isSetup 4 j = true := by simp [Job.isSetup, Job.isKind, hj.2.2, hg]
  refine ⟨fun h1 h120 hdraw => ?_, fun hbad => ?_⟩
  · have hn : ¬ (j.word 3 < 1 ∨ Config.budgetMax < j.word 3 ∨ j.word 3 < (s.take j.cell).draw) := by
      have hs : (s.take j.cell).draw = s.draw := rfl
      rw [hs, Config.budgetMax]
      omega
    obtain ⟨w, n, p, he, hend, hmark⟩ := ended_at_take (act := supplyJob)
      (m := { (s.take j.cell).markCabinet with budget := j.word 3 }) hj.1 hj.2.1 hd (if_neg hn) rfl rfl
      fun id => ⟨mark_count s .cabinet id, mark_keeps s .cabinet id⟩
    exact ⟨_, he, hend, rfl, hmark .cabinet rfl, rfl⟩
  · exact refused_at_take hj.1 hj.2.1 hd (if_pos hbad)

end Sys2Proof.Machine
end

section
namespace Sys2Proof.Machine

/-! ### The power-up check and its evictions (R28, R29) -/

section
variable {s : State}

/-- The candidates of the check are the slots that it may evict (R28). -/
theorem candidate_eq (s : State) (v : Slot) : s.candidate v = decide (Evictable s v) := by
  rw [Bool.eq_iff_iff]
  simp only [State.candidate, Evictable, Bool.and_eq_true, Bool.not_eq_true', decide_eq_true_eq, Bool.and_eq_false_iff,
    Bool.or_eq_false_iff, decide_eq_false_iff_not, and_assoc]
  have hp : s.ho.phase.inFlight = false ↔ s.ho.phase = .quiet := by cases s.ho.phase <;> simp [Phase.inFlight]
  rw [hp]
  by_cases hq : s.ho.phase = .quiet
  · simp [hq]
  · simp [hq]

theorem evictable_eq (s : State) : s.evictable = s.warm.reverse.filter s.candidate :=
  congrArg (fun p => s.warm.reverse.filter p) (funext fun v => (candidate_eq s v).symm)

/-- The candidates up to the first with which the class fits are what the check collects (R28). -/
theorem gather_least {c : Nat} {l : List Slot} {d : Nat} {chosen ws : List Slot} (hb : s.budget < d + c)
    (hd : s.classSum (l.filter s.candidate) ≤ d) (hpre : ws <+: l.filter s.candidate)
    (hfit : d + c ≤ s.budget + s.classSum ws)
    (hleast : ∀ n, n < ws.length → s.budget + s.classSum (ws.take n) < d + c) :
    s.gather c l d chosen = some (chosen ++ ws) := by
  have hne : ws ≠ [] := fun h => by
    rw [h] at hfit
    exact Nat.not_le.2 hb hfit
  induction l generalizing d chosen ws with
  | nil => exact absurd (List.prefix_nil.1 hpre) hne
  | cons v rest ih =>
    unfold State.gather
    by_cases hv : s.candidate v = true
    · rw [List.filter_cons_of_pos hv] at hpre hd
      rw [classSum_cons] at hd
      obtain ⟨w, ws, rfl⟩ := List.exists_cons_of_ne_nil hne
      obtain ⟨rfl, hrest⟩ := List.cons_prefix_cons.1 hpre
      rw [classSum_cons] at hfit
      rw [if_pos hv]
      by_cases hw : ws = []
      · subst hw
        have hnil : s.classSum [] = 0 := rfl
        rw [if_pos (by omega)]
      · have hlen := List.length_pos_iff.2 hw
        have h1 := hleast 1 (by simpa using hlen)
        have hone : s.classSum ((w :: ws).take 1) = s.drawClass w := by simp [State.classSum]
        rw [hone] at h1
        rw [if_neg (by omega), ih (by omega) (by omega) hrest (by omega) (fun n hn => ?_) hw, List.append_assoc]
        · rfl
        · have := hleast (n + 1) (by simpa using hn)
          rw [List.take_succ_cons, classSum_cons] at this
          omega
    · rw [List.filter_cons_of_neg hv] at hpre hd
      rw [if_neg hv]
      exact ih hb hd hpre hfit hleast hne

/-- With every candidate gone the class does not fit: the check fails (R28). -/
theorem gather_none {c : Nat} {l : List Slot} {d : Nat} {chosen : List Slot}
    (hd : s.classSum (l.filter s.candidate) ≤ d)
    (h : s.budget + s.classSum (l.filter s.candidate) < d + c) : s.gather c l d chosen = none := by
  induction l generalizing d chosen with
  | nil => rfl
  | cons v rest ih =>
    unfold State.gather
    by_cases hv : s.candidate v = true
    · rw [List.filter_cons_of_pos hv, classSum_cons] at hd h
      rw [if_pos hv, if_neg (by omega)]
      exact ih (by omega) (by omega)
    · rw [List.filter_cons_of_neg hv] at hd h
      rw [if_neg hv]
      exact ih hd h

theorem evictable_powered {v : Slot} (h : v ∈ s.evictable) : (s.slot v).state.powered = true := by
  rw [evictable_eq] at h
  exact powered_of_running (candidate_running (List.of_mem_filter h))

theorem evictable_nodup (h : s.warm.Nodup) : s.evictable.Nodup := (List.nodup_reverse.2 h).filter _

/-- Powered slots, each counted once, draw no more than the whole. -/
theorem classSum_le_draw {vs : List Slot} (hn : vs.Nodup) (hp : ∀ v, v ∈ vs → (s.slot v).state.powered = true) :
    s.classSum vs ≤ s.draw := by
  have := evictAll_draw hn hp
  omega

theorem check_congr {t : State} (e : t.supply = s.supply) (hc : t.candidate = s.candidate) : t.check = s.check := by
  have hd : t.drawClass = s.drawClass := funext (drawClass_of_supply e)
  have hb : t.budget = s.budget := congrArg Supply.budget e
  have hw : t.warm = s.warm := congrArg Supply.warm e
  have hg (c : Nat) (l : List Slot) : t.gather c l = s.gather c l := by
    induction l with
    | nil => rfl
    | cons v rest ih =>
      funext d chosen
      simp only [State.gather, hd, hb, hc, ih]
  funext i e'
  simp only [State.check, hg, hd, hb, hw, draw_of_supply e]

/-- The take of a job changes nothing that a power-up check reads (R8, R28). -/
theorem check_take (s : State) (c : CellNo) : (s.take c).check = s.check := check_congr rfl rfl

theorem check_fits {i : Slot} (h : s.draw + s.drawClass i ≤ s.budget) (e : Bool) : s.check i e = some [] := if_pos h

theorem check_evicts {i : Slot} {vs : List Slot} (hw : s.warm.Nodup) (hb : s.budget < s.draw + s.drawClass i)
    (h : EvictsFor s i vs) : s.check i true = some vs := by
  rw [State.check, if_neg (by omega), if_pos rfl]
  have hd := classSum_le_draw (evictable_nodup hw) fun v hv => evictable_powered hv
  have horder := h.order
  rw [evictable_eq] at hd horder
  exact gather_least hb hd horder h.fits h.least

theorem check_fails {i : Slot} {e : Bool} (hb : s.budget < s.draw + s.drawClass i)
    (h : e = false ∨ s.warm.Nodup ∧ s.budget + s.classSum s.evictable < s.draw + s.drawClass i) : s.check i e = none := by
  rw [State.check, if_neg (by omega)]
  rcases h with rfl | ⟨hw, hroom⟩
  · rfl
  · have hd := classSum_le_draw (evictable_nodup hw) fun v hv => evictable_powered hv
    rw [evictable_eq] at hd hroom
    split
    · exact gather_none hd hroom
    · rfl

theorem evictsFor_powered {i : Slot} {vs : List Slot} (h : EvictsFor s i vs) {v : Slot} (hv : v ∈ vs) :
    (s.slot v).state.powered = true := evictable_powered (h.order.subset hv)

theorem evictsFor_nodup {i : Slot} {vs : List Slot} (hw : s.warm.Nodup) (h : EvictsFor s i vs) : vs.Nodup :=
  (evictable_nodup hw).sublist h.order.sublist

/-- The warm list with slots evicted (R34, R38). -/
theorem evictAll_warm {vs : List Slot} (hw : s.warm.Nodup) :
    (s.evictAll vs).warm = s.warm.filter fun k => decide (k ∉ vs) := by
  induction vs generalizing s with
  | nil => simp [State.evictAll]
  | cons v vs ih =>
    refine (ih (s := s.toCooling v) (hw.erase v)).trans ?_
    have hv : (s.toCooling v).warm = s.warm.filter (· != v) := hw.erase_eq_filter v
    rw [hv, List.filter_filter]
    refine List.filter_congr fun k _ => ?_
    by_cases hk : k = v <;> simp [hk]

/-- The mask of some slots has the bit of each, and no other (R29). -/
theorem getLsbD_maskOf (vs : List Slot) (n : Nat) : (maskOf vs).getLsbD n = true ↔ ∃ v, v ∈ vs ∧ v.number = n := by
  induction vs with
  | nil => simp [maskOf]
  | cons v vs ih =>
    have hv : v.number < 16 := Nat.lt_of_le_of_lt (Slot.number_le v) (by decide)
    rw [maskOf, BitVec.getLsbD_or, slotBit, getLsbD_oneShift hv, Bool.or_eq_true, ih, decide_eq_true_eq]
    simp [eq_comm]

end

/-! ### POWER ON (R27 to R30, R42, R134) -/

/-- The record of a slot powered for a requester after a check that evicted `mask` (R29, R30). -/
def SlotRec.poweredFor (ms : Nat) (mask : Word) (r : SlotRec) : SlotRec :=
  { r.settling ms with powerUp := r.powerUp.map fun p => { p with evicted := mask } }

section
variable {s : State} {i : Slot} {d : Descriptor} {vs : List Slot}

/-- A passing check that has taken effect: what stands at the slot, at the evicted ones and at the others (R29, R30). -/
theorem powerSlot_slot (hn : vs.Nodup) (hi : i ∉ vs) (k : Slot) : (s.powerSlot i vs).slot k =
    if k = i then (s.slot k).poweredFor (s.figure i Descriptor.settle * 10) (maskOf vs)
    else if k ∈ vs then (s.slot k).cooling (s.figure k Descriptor.cool * 100) else s.slot k := by
  have hfig : (s.evictAll vs).figure i Descriptor.settle = s.figure i Descriptor.settle := by
    rw [evictAll_eq]
    rfl
  rw [State.powerSlot, modSlot_slot, applyPower_slot, hfig]
  split
  case isTrue hk =>
    rw [evictAll_slot hn, if_neg (by rw [hk]; exact hi)]
    rfl
  case isFalse => rw [evictAll_slot hn]

theorem powerSlot_eq (s : State) (i : Slot) (vs : List Slot) :
    s.powerSlot i vs = { s with slots := (s.powerSlot i vs).slots, warm := (s.powerSlot i vs).warm } := by
  unfold State.powerSlot
  rw [evictAll_eq]
  rfl

theorem powerSlot_draw (hn : vs.Nodup) (hv : ∀ v, v ∈ vs → (s.slot v).state.powered = true)
    (hp : (s.slot i).state.powered = false) : (s.powerSlot i vs).draw + s.classSum vs = s.draw + s.drawClass i := by
  have hi : i ∉ vs := fun hm => by
    rw [hv i hm] at hp
    cases hp
  have hslot : ((s.evictAll vs).slot i).state.powered = false := by rwa [evictAll_slot hn, if_neg hi]
  have hclass : (s.evictAll vs).drawClass i = s.drawClass i := by rw [evictAll_eq]; rfl
  have hd := evictAll_draw hn hv
  have hsup : (s.powerSlot i vs).draw = ((s.evictAll vs).applyPower i).draw :=
    draw_of_supply (modSlot_keeps _ _ fun _ => rfl)
  rw [hsup, applyPower_draw hslot, hclass]
  omega

/-- A request for an OFF slot that passes its check (R27, R28). -/
theorem request_off {q : Requester} (hoff : (s.slot i).state = .off)
    (hc : s.check i (PowerUp.blank.join q).evict = some vs) (hcopy : s.copy i = some d) :
    s.request i q = (.granted (maskOf vs), (s.modSlot i (SlotRec.requested d q)).powerSlot i vs) := by
  rw [← join_reload hcopy]
  simp only [State.request, hoff, hc]

theorem powerOn_off {j : Job} {vs : List Slot} (hoff : (s.slot i).state = .off) (hup : (s.slot i).powerUp = none)
    (hcopy : s.copy i = some d) (hc : s.check i (j.bit 4 0) = some vs) :
    s.powerOn i j = (s.modSlot i (SlotRec.requested d (.job j.cell (j.bit 4 0)))).powerSlot i vs := by
  have hjob : (s.slot i).jobCell = none := by rw [SlotRec.jobCell, hup]; rfl
  have he : (PowerUp.blank.join (.job j.cell (j.bit 4 0))).evict = j.bit 4 0 := Bool.or_false _
  rw [State.powerOn, hjob]
  simp only [Option.isSome_none, Bool.false_eq_true, if_false, State.powerRequest]
  rw [request_off hoff (by rw [he]; exact hc) hcopy]
  rfl

theorem powerOn_noRoom {j : Job} (hoff : (s.slot i).state = .off) (hup : (s.slot i).powerUp = none)
    (hc : s.check i (j.bit 4 0) = none) : s.powerOn i j = s.completePower j.cell i .noBudget s.draw 0 := by
  have hjob : (s.slot i).jobCell = none := by rw [SlotRec.jobCell, hup]; rfl
  have he : (PowerUp.blank.join (.job j.cell (j.bit 4 0))).evict = j.bit 4 0 := Bool.or_false _
  rw [State.powerOn, hjob]
  simp only [Option.isSome_none, Bool.false_eq_true, if_false, State.powerRequest, State.request, hoff, he, hc]
  rfl

end

/-- What POWER ON of an OFF slot whose check passes does to the slots, the warm list and the draw (R29, R30, R42). -/
theorem powerOn_powers {s : State} {j : Job} {i : Slot} {d : Descriptor} {vs : List Slot} (hj : NextJob s j 3)
    (ha : j.word 3 = 1) (hi : Slot.ofNumber (j.word 2) = some i) (hoff : (s.slot i).state = .off)
    (hup : (s.slot i).powerUp = none) (hcopy : s.copy i = some d) (hn : vs.Nodup)
    (hv : ∀ v, v ∈ vs → (s.slot v).state.powered = true) (hc : s.check i (j.bit 4 0) = some vs) :
    ∃ t, exec .powerOn s = .next t ∧ WaitsWithOwner s t j ∧
      t.slot i = { s.slot i with
        state := .settling, settle := some (d.settle * 10), start := none, grace := none, cool := none,
        overCount := 0, restarts := d.allowance, powerUp := some ⟨some (j.cell, j.bit 4 0), none, false, maskOf vs⟩ } ∧
      (∀ v, v ∈ vs → t.slot v = (s.slot v).cooling (s.figure v Descriptor.cool * 100)) ∧
      (∀ k, k ≠ i → k ∉ vs → t.slot k = s.slot k) ∧ t.warm = i :: (s.evictAll vs).warm.erase i ∧
      t.draw + s.classSum vs = s.draw + d.drawClass ∧
      t = { s with intake := t.intake, pages := t.pages, slots := t.slots, warm := t.warm } := by
  let u := s.take j.cell
  let v := u.modSlot i (SlotRec.requested d (.job j.cell (j.bit 4 0)))
  let m := v.powerSlot i vs
  have hm : m = { v with slots := m.slots, warm := m.warm } := powerSlot_eq ..
  have hoffp := (powered_of_off hoff).1
  have hi' : i ∉ vs := fun hm => by
    rw [hv i hm] at hoffp
    cases hoffp
  have hcheck : u.check i (j.bit 4 0) = some vs := by rw [check_take]; exact hc
  obtain ⟨p, he, hwait, -⟩ := waits_at_take (m := m) hj.2.1 (isPower_due hj ha)
    ((powerJob_slot hi (by omega) u).trans (powerOn_off hoff hup hcopy hcheck)) (by rw [hm]; rfl) (by rw [hm]; rfl)
    ((OnlyMarks.refl s).congr (by rw [hm]; rfl))
  have hvslot (k : Slot) : v.slot k = if k = i then (s.slot k).requested d (.job j.cell (j.bit 4 0)) else s.slot k :=
    modSlot_slot u i k _
  have hslot := powerSlot_slot (s := v) hn hi'
  have hfig : v.figure i Descriptor.settle = d.settle := figure_some (s := v) hcopy _
  have hsame : m.slot i = { s.slot i with
      state := .settling, settle := some (d.settle * 10), start := none, grace := none, cool := none,
      overCount := 0, restarts := d.allowance, powerUp := some ⟨some (j.cell, j.bit 4 0), none, false, maskOf vs⟩ } := by
    rw [hslot, if_pos rfl, hvslot, if_pos rfl, hfig]
    simp only [SlotRec.poweredFor, SlotRec.settling, SlotRec.requested, SlotRec.join, hup]
    rfl
  have hvict (w : Slot) (hw : w ∈ vs) : m.slot w = (s.slot w).cooling (s.figure w Descriptor.cool * 100) := by
    have hwi : w ≠ i := ne_of_mem_of_not_mem hw hi'
    rw [hslot, if_neg hwi, if_pos hw, hvslot, if_neg hwi]
    rfl
  have hother (k : Slot) (hk : k ≠ i) (hkv : k ∉ vs) : m.slot k = s.slot k := by
    rw [hslot, if_neg hk, if_neg hkv, hvslot, if_neg hk]
  have hvs : v.supply = s.supply := requested_supply u i d _
  have hvdraw := powerSlot_draw (s := v) hn (fun w hw => (powered_of_supply hvs w).trans (hv w hw))
    ((powered_of_supply hvs i).trans hoffp)
  have hclass : v.drawClass i = d.drawClass := drawClass_some (s := v) hcopy
  have hsum : v.classSum vs = s.classSum vs := rfl
  rw [hclass, draw_of_supply hvs, hsum] at hvdraw
  have hwarm : ∀ (l : List Slot) (a b : State), a.warm = b.warm → (a.evictAll l).warm = (b.evictAll l).warm := by
    intro l
    induction l with
    | nil => exact fun a b h => h
    | cons w l ih => exact fun a b h => ih _ _ (congrArg (List.erase · w) h)
  have hmwarm : m.warm = i :: (s.evictAll vs).warm.erase i :=
    congrArg (fun l => i :: List.erase l i) (hwarm vs v s rfl)
  have hmdraw : m.draw + s.classSum vs = s.draw + d.drawClass := hvdraw
  have hm' : ∃ slots warm, m = { v with slots := slots, warm := warm } := ⟨_, _, hm⟩
  clear_value m
  obtain ⟨slots, warm, rfl⟩ := hm'
  exact ⟨_, he, hwait, hsame, hvict, hother, hmwarm, hmdraw, rfl⟩

/-- Settles O25: with room and by eviction the check passes, the second time with the evictable slots that make the room. -/
theorem powerOnResult : Obligations.PowerOnResult := by
  intro s j i hj ha hi
  refine ⟨fun d hoff hup hcopy hfit => ?_, fun d vs hoff hup hcopy he hw hb hev => ?_, fun hoff hup hno => ?_,
    fun hjob => ?_⟩
  · rw [← drawClass_some hcopy] at hfit
    obtain ⟨t, ht, hwait, hslot, -, hother, hwarm, hdraw, hframe⟩ := powerOn_powers hj ha hi hoff hup hcopy
      List.nodup_nil (by simp) (check_fits hfit _)
    refine ⟨t, ht, hwait, hslot, fun k hk => hother k hk (by simp), hwarm, ?_, ?_, hdraw, hframe⟩
    · rw [State.supplyOn, hslot]; rfl
    · rw [State.resetAsserted, hslot]; rfl
  · have hn := evictsFor_nodup hw hev
    have hc : s.check i (j.bit 4 0) = some vs := by
      rw [he]
      exact check_evicts hw (by rwa [drawClass_some hcopy]) hev
    obtain ⟨t, ht, hwait, hslot, hvict, hother, hwarm, hdraw, hframe⟩ := powerOn_powers hj ha hi hoff hup hcopy hn
      (fun v hv => evictsFor_powered hev hv) hc
    have hmask : (t.slot i).mask = maskOf vs := by rw [hslot]; rfl
    refine ⟨t, ht, hwait, fun n _ => ?_, ?_, hvict, hother, ?_, hdraw, hframe⟩
    · rw [hmask]
      exact getLsbD_maskOf vs n
    · rw [hmask, hslot, he]
    · rw [hwarm, evictAll_warm hw]
  · have hb : s.budget < s.draw + s.drawClass i := by omega
    have hc : s.check i (j.bit 4 0) = none := check_fails hb (hno.imp (·.1) id)
    obtain ⟨t, ht, hend, hframe⟩ := power_refused hj hi ha (by decide)
      (powerOn_noRoom (s := s.take j.cell) hoff hup (by rw [check_take]; exact hc))
    rw [hoff] at hend
    exact ⟨t, ht, hend, hframe⟩
  · exact power_refused hj hi ha (by decide) (if_pos (c := ((s.take j.cell).slot i).jobCell.isSome = true) hjob)

end Sys2Proof.Machine
end

section
namespace Sys2Proof.Machine

/-! ### Loads queued, and the ends of settling and cooling (R22, R25, R26, R30, R34, R53, R61, R66, R78) -/

section
variable {s : State} {i : Slot}

/-- A queued load changes the bus queue, the slot with its copy and record, and marks (R25, R53, R66). -/
theorem queueLoad_marks (s : State) (kind : BusKind) (i : Slot) (cells : List CellNo) :
    ∃ pages, s.queueLoad kind i cells = { s with
        pages := pages, slots := s.slots.set i { s.slot i with state := .loading },
        bus := { s.bus with
          queue := s.bus.queue ++ [⟨kind, i, 0, 32, [], cells⟩], copies := s.bus.copies.set i none },
        sync := { s.sync with records := s.sync.records.set (.slot i) (SyncRec.blank .empty) } } ∧
      OnlyMarks s (s.queueLoad kind i cells) ∧ (pages.get (.source (.slot i))).mark = true ∧
      (pages.get .cabinet).mark = true := by
  refine ⟨_, rfl, (((OnlyMarks.refl s).mark .cabinet).mark (.source (.slot i))).congr rfl, ?_, ?_⟩
  · show ((s.markCabinet.mark (.source (.slot i))).pages.get (.source (.slot i))).mark = true
    rw [State.mark_pages, Pages.get_set_same]
    rfl
  · exact mark_keeps s.markCabinet (.source (.slot i)) .cabinet (by simp [State.markCabinet, State.mark])

/-- Settles O38: the queued load, then the presence count cleared. -/
theorem presenceStartsLoad : Obligations.PresenceStartsLoad := by
  intro s i he
  let v : State := { s with pins.presence := s.pins.presence.set i true }
  obtain ⟨pages, hq, hmarks, -, -⟩ := queueLoad_marks v .autoload i []
  have hm : s.presence i = (v.queueLoad .autoload i []).modSlot i fun r => { r with presenceCount := 0 } := if_pos he
  rw [hq] at hm hmarks
  have hslots : (s.slots.set i { s.slot i with state := .loading }).set i
      { (s.slots.set i { s.slot i with state := .loading }).get i with presenceCount := 0 } =
      s.slots.set i { s.slot i with state := .loading, presenceCount := 0 } := by
    rw [PerSlot.set_set, PerSlot.get_set_same]
  have hm' : s.presence i = { v with
      pages := pages, slots := s.slots.set i { s.slot i with state := .loading, presenceCount := 0 },
      bus := { s.bus with
        queue := s.bus.queue ++ [⟨.autoload, i, 0, 32, [], []⟩], copies := s.bus.copies.set i none },
      sync := { s.sync with records := s.sync.records.set (.slot i) (SyncRec.blank .empty) } } := by
    rw [hm, ← hslots]
    rfl
  exact ⟨_, (congrArg (finish s) hm').trans (finish_eq ..), rfl, rfl, rfl, rfl, rfl,
    OnlyMarks.finish (s := s) (OnlyMarks.congr hmarks (by rfl))⟩

/-- Settles O37, state by state: queued, attached to the standing request, refused. -/
theorem reloadByState : Obligations.ReloadByState := by
  intro s j i hj hi
  have hd : Job.isKind 10 j = true := by simp [Job.isKind, hj.2.2]
  refine ⟨fun hs => ?_, fun hs => ?_, fun hs => ?_, fun hs => ?_⟩
  · have hact : reloadJob j (s.take j.cell) = (s.take j.cell).queueLoad .reload i [j.cell] := by
      have hst : ((s.take j.cell).slot i).state = (s.slot i).state := rfl
      simp only [reloadJob, hi, hst]
      rcases hs with hs | hs <;> rw [hs]
    obtain ⟨pages, hq, hmarks, hsrc, hcab⟩ := queueLoad_marks (s.take j.cell) .reload i [j.cell]
    rw [hq] at hact hmarks
    obtain ⟨p, he, hwait, hkeep⟩ := waits_at_take hj.2.1 hd hact rfl rfl hmarks
    exact ⟨_, he, hwait, rfl, rfl, rfl, hkeep _ hsrc, hkeep _ hcab, rfl⟩
  · have hact : reloadJob j (s.take j.cell) =
        { s.take j.cell with bus.queue := s.bus.queue.map (attachCell i j.cell) } := by
      have hst : ((s.take j.cell).slot i).state = .loading := hs
      simp only [reloadJob, hi, hst]
      rfl
    obtain ⟨p, he, hwait, -⟩ := waits_at_take hj.2.1 hd hact rfl rfl (OnlyMarks.refl s)
    refine ⟨_, he, hwait, ?_, rfl⟩
    refine congrArg (fun f : BusRequest → BusRequest => { s.bus with queue := s.bus.queue.map f }) (funext fun q => ?_)
    have hl : q.isLoad = true ↔ q.kind = .autoload ∨ q.kind = .reload := by
      unfold BusRequest.isLoad
      cases q.kind <;> simp
    simp only [attachCell, hl]
  · refine refused_at_take hj.1 hj.2.1 hd ?_
    have hst : ((s.take j.cell).slot i).state = .empty := hs
    simp only [reloadJob, hi, hst]
  · refine refused_at_take hj.1 hj.2.1 hd ?_
    have hst : ((s.take j.cell).slot i).state = (s.slot i).state := rfl
    simp only [reloadJob, hi, hst]
    split
    case h_8 | h_9 | h_10 | h_11 | h_5 | h_6 | h_7 => rfl
    all_goals
      rename_i h
      rw [h] at hs
      simp [SlotState.powered] at hs

/-- The new run asked for at the end of settling changes the record, and marks (R78, R80). -/
theorem requestNewRun_marks (s : State) (i : Slot) :
    ∃ pages, s.requestNewRun i = { s with
        pages := pages, sync := { s.sync with records := s.sync.records.set (.slot i) (s.record (.slot i)).newRun } } ∧
      OnlyMarks s (s.requestNewRun i) := by
  unfold State.requestNewRun
  extract_lets r t
  split
  · exact ⟨_, rfl, ((OnlyMarks.refl s).mark (.source (.slot i))).congr rfl⟩
  · exact ⟨_, rfl, (OnlyMarks.refl s).congr rfl⟩

/-- Settles O42: the start timer, and the new run of the record. -/
theorem settleEndsInStarting : Obligations.SettleEndsInStarting := by
  intro s i d hs hcopy
  let v := s.modSlot i fun r =>
    { r with state := .starting, settle := none, start := some (s.figure i Descriptor.startTimeout * 100) }
  have hm : s.settled i = v.requestNewRun i := if_pos hs
  obtain ⟨pages, hr, hmarks⟩ := requestNewRun_marks v i
  rw [hr] at hm hmarks
  have hslot : v.slot i = { s.slot i with state := .starting, settle := none, start := some (d.startTimeout * 100) } :=
    (modSlot_slot_same ..).trans (by rw [figure_some hcopy])
  have hslots : v.slots = s.slots.set i
      { s.slot i with state := .starting, settle := none, start := some (d.startTimeout * 100) } :=
    (modSlot_slots ..).trans (by rw [figure_some hcopy])
  have hsupply : v.supplyOn i = true := congrArg (fun r : SlotRec => r.state.powered) hslot
  have hreset : v.resetAsserted i = false := congrArg (fun r : SlotRec => !r.state.resetReleased) hslot
  have hother (src : Source) (h : src ≠ .slot i) :
      (v.sync.records.set (.slot i) (v.record (.slot i)).newRun).get src = s.record src :=
    (PerSource.get_set ..).trans (if_neg h)
  have hrecord : (v.sync.records.set (.slot i) (v.record (.slot i)).newRun).get (.slot i) =
      (s.record (.slot i)).newRun := PerSource.get_set_same ..
  exact ⟨_, (congrArg (finish s) hm).trans (finish_eq ..), hslots, hsupply, hreset, hother, hrecord, rfl, rfl,
    OnlyMarks.finish (s := s) hmarks⟩

/-! ### A pending power-up that fits the budget (R28 to R30, R34) -/

/-- A slot powered with nothing evicted (R30). -/
theorem powerSlot_nil (s : State) (i : Slot) : s.powerSlot i [] = { s with
    slots := s.slots.set i ((s.slot i).poweredFor (s.figure i Descriptor.settle * 10) 0),
    warm := i :: s.warm.erase i } := by
  have hslots : (s.powerSlot i []).slots = s.slots.set i ((s.slot i).poweredFor (s.figure i Descriptor.settle * 10) 0) := by
    unfold State.powerSlot
    rw [modSlot_slots, applyPower_slot, if_pos rfl]
    exact PerSlot.set_set ..
  exact congrArg (fun l : PerSlot SlotRec => { s with slots := l, warm := i :: s.warm.erase i }) hslots

/-- The check of a pending power-up passes where the class fits, and the controller, none of its requesters, learns nothing
(R28, R120). -/
theorem checkPending_fits {p : PowerUp} {d : Descriptor} (hup : (s.slot i).powerUp = some p) (hho : p.handOver = none)
    (hcopy : s.copy i = some d) (hfit : s.draw + d.drawClass ≤ s.budget) : s.checkPending i = { s with
      slots := s.slots.set i ((s.slot i).poweredFor (d.settle * 10) 0), warm := i :: s.warm.erase i } := by
  have hc := check_fits (e := p.evict) (by rwa [drawClass_some hcopy] : s.draw + s.drawClass i ≤ s.budget)
  simp only [State.checkPending, hup, hc, State.reportMask, hho, Option.isSome_none, Bool.false_and, Bool.false_eq_true,
    if_false]
  rw [powerSlot_nil, figure_some hcopy]

theorem checkPending_none (h : (s.slot i).powerUp = none) : s.checkPending i = s := by
  simp only [State.checkPending, h]

/-- A slot that comes to OFF and is not stale (R26). -/
theorem reachOff_fresh (h : s.bus.stale.get i = false) :
    s.reachOff i = s.modSlot i fun r => { r.stopTimers with state := .off } := by
  simp [State.reachOff, h]

theorem cooled_fresh (hs : (s.slot i).state = .cooling) (h : s.bus.stale.get i = false) :
    s.cooled i = (s.modSlot i fun r => { r.stopTimers with state := .off }).checkPending i := by
  rw [State.cooled, if_pos hs, reachOff_fresh h]
  exact if_pos (congrArg SlotRec.state (modSlot_slot_same ..))

/-- Settles O44, by what is pending when the slot reaches OFF. -/
theorem coolingEnds : Obligations.CoolingEnds := by
  intro s i hs
  let v := s.modSlot i fun r => { r.stopTimers with state := .off }
  have hv : v.slot i = { (s.slot i).stopTimers with state := .off } := modSlot_slot_same ..
  refine ⟨fun hstale hup => ?_, fun hstale => ?_, fun p d hstale hup hho hcopy hfit => ?_⟩
  · have hm : s.cooled i = v := (cooled_fresh hs hstale).trans (checkPending_none (by rw [hv]; exact hup))
    exact ⟨_, (congrArg (finish s) hm).trans (finish_eq ..), rfl, rfl,
      OnlyMarks.finish (t := v) ((OnlyMarks.refl s).congr rfl)⟩
  · obtain ⟨pages, hq, hmarks, -, -⟩ := queueLoad_marks (v.setStale i false) .reload i []
    have hr : s.reachOff i = (v.setStale i false).queueLoad .reload i [] := if_pos hstale
    have hm : s.cooled i = (v.setStale i false).queueLoad .reload i [] := by
      rw [State.cooled, if_pos hs, hr]
      refine if_neg fun hc => ?_
      rw [queueLoad_slot, if_pos rfl] at hc
      cases hc
    have hslots : v.slots.set i { v.slot i with state := .loading } = s.slots.set i { s.slot i with
        state := .loading, settle := none, start := none, grace := none, cool := none } := by
      rw [hv]
      exact PerSlot.set_set ..
    rw [hq] at hm hmarks
    exact ⟨_, (congrArg (finish s) hm).trans (finish_eq ..), hslots, rfl, rfl, rfl, OnlyMarks.finish (s := s) hmarks⟩
  · have hvs : v.supply = s.supply := modSlot_supply (by rw [hs]; rfl) (by rw [hs]; simp)
    have hm : s.cooled i = { v with
        slots := v.slots.set i ((v.slot i).poweredFor (d.settle * 10) 0), warm := i :: s.warm.erase i } :=
      (cooled_fresh hs hstale).trans
        (checkPending_fits (s := v) (by rw [hv]; exact hup) hho hcopy (by rw [draw_of_supply hvs]; exact hfit))
    have hslot : (v.slot i).poweredFor (d.settle * 10) 0 = { s.slot i with
        state := .settling, settle := some (d.settle * 10), start := none, grace := none, cool := none,
        overCount := 0, powerUp := some ⟨p.job, none, p.auto, 0⟩ } := by
      rw [hv]
      simp only [SlotRec.poweredFor, SlotRec.settling, SlotRec.stopTimers, hup, Option.map_some, ← hho]
    have hdraw : (v.powerSlot i []).draw = s.draw + d.drawClass := by
      have hd := powerSlot_draw (s := v) (i := i) List.nodup_nil (by simp) (by rw [hv]; rfl)
      rw [drawClass_some (s := v) hcopy, draw_of_supply hvs] at hd
      exact hd
    rw [powerSlot_nil, figure_some (s := v) hcopy] at hdraw
    rw [hslot] at hm hdraw
    have hslots (r : SlotRec) : v.slots.set i r = s.slots.set i r := PerSlot.set_set ..
    rw [hslots] at hm hdraw
    exact ⟨_, (congrArg (finish s) hm).trans (finish_eq ..), rfl, rfl, hdraw, rfl,
      OnlyMarks.finish (s := s) ((OnlyMarks.refl s).congr (by rfl))⟩

/-! ### Over-current (R35, R40, R167) -/

/-- What befalls a slot that is aside reaches no controller (R101). -/
theorem controllerSlotFails_aside (h : Aside s i) (reason : FailReason) : s.controllerSlotFails i reason = s := by
  simp only [State.controllerSlotFails, h.1, if_neg h.2]

/-- The POWER job on a slot's power-up, if there is one, is the one that is answered (R40). -/
theorem answerJob_completeEach (s : State) (i : Slot) (q : SlotRec) (r : Result) (d : Nat) (mask : Word) :
    s.answerJob i q.powerUp r d mask =
      s.completeEach (q.jobCell.toList.map fun c => ⟨c, r, d, s.powerData i mask⟩) := by
  unfold State.answerJob SlotRec.jobCell
  cases q.powerUp with
  | none => rfl
  | some p => cases hp : p.job <;> simp [hp, State.completeEach]

/-- What the credit unit does as a slot leaves the air (R167). -/
theorem leaveAir_credit (s : State) (i : Slot) : (s.leaveAir i).credit = { s.credit with
    feed := s.credit.feed.set i false, pending := s.credit.pending.set i 0,
    bank := s.credit.bank + min (s.credit.pending.get i) (9999 - s.credit.bank),
    unbanked := s.credit.unbanked +
      BitVec.ofNat 32 (s.credit.pending.get i - min (s.credit.pending.get i) (9999 - s.credit.bank)) } := rfl

/-- A completion in a state whose window and intake are those of `s`, as `t` shows it (R10). -/
theorem completesCell_of {s m t : State} {c : CellNo} {r : Result} {d : Nat} {l : List Nat} (hw : s.window.wf = true)
    (hwin : m.window = s.window) (hint : m.intake = s.intake) (hc : s.cell c = .taken) (hmarks : OnlyMarks s t)
    (htw : t.window = (m.complete c r d l).window) (hti : t.intake = (m.complete c r d l).intake) :
    CompletesCell s t c r d l := by
  have hcm : m.cell c = .taken := by
    rw [State.cell, hint]
    exact hc
  have hr := complete_reads (by rw [hwin]; exact hw) hcm r d l
  have hread (a : Nat) : t.readMem a = (m.complete c r d l).readMem a := by rw [State.readMem, htw]; rfl
  refine ⟨?_, fun k hk => (hread _).trans (hr.1 k hk), fun a ha => (hread a).trans ((hr.2 a ha).trans ?_), hmarks⟩
  · rw [hti, complete_taken hcm, hint]
  · simp only [State.readMem, hwin]

theorem faultSlot_slot (s : State) (i k : Slot) : (s.faultSlot i).slot k = if k = i then { s.slot k with
    state := .fault, reason := .overcurrent, overCount := 0, settle := none, start := none, grace := none,
    cool := none, powerUp := none } else s.slot k := modSlot_slot s i k fun r => { r with
      state := .fault, reason := .overcurrent, overCount := 0, settle := none, start := none, grace := none,
      cool := none, powerUp := none }

theorem faultSlot_draw (hp : (s.slot i).state.powered = true) : (s.faultSlot i).draw + s.drawClass i = s.draw := by
  have hd := draw_change (t := s.faultSlot i) (s := s) (i := i) fun k hk =>
    slotDraw_congr (by rw [faultSlot_slot, if_neg hk]) rfl
  rwa [slotDraw_powered hp, slotDraw_unpowered (by rw [faultSlot_slot, if_pos rfl]; rfl)] at hd

/-- Settles O41: the slot faults, its POWER job is answered, and only its credit leaves the air. -/
theorem overcurrentFaults : Obligations.OvercurrentFaults := by
  intro s i hp haside
  let v := s.faultSlot i
  let es : List Ending := (s.slot i).jobCell.toList.map fun c => ⟨c, .fault, 0, v.powerData i (s.slot i).mask⟩
  let u := v.completeEach es
  have hu : u = { v with window := u.window, intake := u.intake } := completeEach_frame es v
  have hslot : v.slot i = { s.slot i with
      state := .fault, reason := .overcurrent, overCount := 0, settle := none, start := none, grace := none,
      cool := none, powerUp := none } := (faultSlot_slot ..).trans (if_pos rfl)
  have hm : s.overcurrent i = u.leaveAir i := by
    have hside : Aside (u.leaveAir i) i := by
      have hho : (u.leaveAir i).ho = s.ho := (show u.ho = v.ho by rw [hu])
      rw [Aside, hho]
      exact haside
    rw [State.overcurrent, if_pos hp, answerJob_completeEach]
    exact controllerSlotFails_aside hside _
  have hdata : v.powerData i (s.slot i).mask = [10, (s.slot i).mask.toNat, v.draw] := by
    rw [State.powerData, hslot]
    rfl
  have hmarks : OnlyMarks s (u.leaveAir i) := (OnlyMarks.refl s).congr (show u.pages = v.pages by rw [hu])
  have hdone (c : CellNo) (hc : (s.slot i).jobCell = some c) :
      u = v.complete c .fault 0 [10, (s.slot i).mask.toNat, v.draw] := by
    have he : es = [⟨c, .fault, 0, [10, (s.slot i).mask.toNat, v.draw]⟩] := by
      simp only [es, hc, hdata, Option.toList_some, List.map_cons, List.map_nil]
    show v.completeEach es = _
    rw [he]
    rfl
  have hm' : ∃ w n, u = { v with window := w, intake := n } := ⟨_, _, hu⟩
  clear_value u
  obtain ⟨w, n, rfl⟩ := hm'
  have hsupply : v.supplyOn i = false := congrArg (fun r : SlotRec => r.state.powered) hslot
  have hreset : v.resetAsserted i = true := congrArg (fun r : SlotRec => !r.state.resetReleased) hslot
  have hdraw : v.draw + s.drawClass i = s.draw := faultSlot_draw hp
  have hfinish := hmarks.finish
  refine ⟨_, (congrArg (finish s) hm).trans (finish_eq ..), rfl, rfl, hsupply, hreset, hdraw, leaveAir_credit v i,
    fun c hc ht => ?_, rfl, hfinish⟩
  have hwin : w = (v.complete c .fault 0 [10, (s.slot i).mask.toNat, v.draw]).window := congrArg State.window (hdone c hc)
  have hint : n = (v.complete c .fault 0 [10, (s.slot i).mask.toNat, v.draw]).intake := congrArg State.intake (hdone c hc)
  have hcell : n.cells[c.val] = .done := by
    rw [hint, complete_taken (s := v) ht]
    simp
  exact ⟨hcell, fun hw => completesCell_of hw (m := v) rfl rfl ht hfinish hwin hint⟩

end
end Sys2Proof.Machine
end

section
namespace Sys2Proof.Machine

/-! ### Completions beside other changes (R10) -/

section
variable {s : State} {i : Slot}

theorem completeEach_append (s : State) (es fs : List Ending) :
    s.completeEach (es ++ fs) = (s.completeEach es).completeEach fs := List.foldl_append ..

theorem completeAll_completeEach (s : State) (cells : List CellNo) (r : Result) (d : Nat) (l : List Nat) :
    s.completeAll cells r d l = s.completeEach (cells.map fun c => ⟨c, r, d, l⟩) := by
  unfold State.completeAll State.completeEach
  rw [List.foldl_map]

/-- A completion reads and changes the window and the cells alone. -/
theorem complete_over {s m : State} (hwin : m.window = s.window) (hint : m.intake = s.intake) (c : CellNo) (r : Result)
    (d : Nat) (l : List Nat) : (m.complete c r d l).window = (s.complete c r d l).window ∧
      (m.complete c r d l).intake = (s.complete c r d l).intake := by
  have hc : m.cell c = s.cell c := by rw [State.cell, hint]; rfl
  by_cases h : s.cell c = .taken
  · rw [complete_taken h, complete_taken (hc.trans h)]
    exact ⟨by rw [hwin], by rw [hint]⟩
  · rw [complete_untaken h, complete_untaken (by rwa [hc])]
    exact ⟨hwin, hint⟩

theorem completeEach_over {m : State} (es : List Ending) : ∀ {s : State}, m.window = s.window → m.intake = s.intake →
    (m.completeEach es).window = (s.completeEach es).window ∧ (m.completeEach es).intake = (s.completeEach es).intake := by
  induction es generalizing m with
  | nil => exact fun hwin hint => ⟨hwin, hint⟩
  | cons e es ih =>
    intro s hwin hint
    have he := complete_over hwin hint e.cell e.result e.detail e.data
    exact ih he.1 he.2

/-- A change of the state that neither reads nor changes the window and the intake. -/
structure BesideJobs (f : State → State) : Prop where
  window : ∀ s, (f s).window = s.window
  intake : ∀ s, (f s).intake = s.intake
  same : ∀ s w n, f { s with window := w, intake := n } = { f s with window := w, intake := n }

/-- Completions and a change beside them come in either order. -/
theorem BesideJobs.completeEach {f : State → State} (h : BesideJobs f) (s : State) (es : List Ending) :
    f (s.completeEach es) = (f s).completeEach es := by
  have he := completeEach_over es (h.window s) (h.intake s)
  rw [completeEach_frame es s, h.same, completeEach_frame es (f s), he.1, he.2]

theorem completeEach_cell_done {c : CellNo} (es : List Ending) :
    ∀ {s : State}, s.cell c = .done → (s.completeEach es).cell c = .done := by
  induction es with
  | nil => exact id
  | cons e es ih =>
    intro s hs
    refine ih (s := s.complete e.cell e.result e.detail e.data) ?_
    by_cases hc : c = e.cell
    · rwa [complete_untaken (by rw [← hc, hs]; decide)]
    · rwa [complete_cell_other s hc]

/-- Every TAKEN cell among those that end is DONE (R10). -/
theorem completeEach_done {c : CellNo} {es : List Ending} :
    ∀ {s : State}, s.cell c = .taken → c ∈ es.map Ending.cell → (s.completeEach es).cell c = .done := by
  induction es with
  | nil => simp
  | cons e es ih =>
    intro s hs hmem
    by_cases hc : c = e.cell
    · refine completeEach_cell_done es (s := s.complete e.cell e.result e.detail e.data) ?_
      rw [hc] at hs ⊢
      rw [complete_taken hs]
      simp [State.cell]
    · rw [List.map_cons, List.mem_cons, or_iff_right hc] at hmem
      exact ih ((complete_cell_other s hc ..).trans hs) hmem

/-! ### Removal (R23, R24, R62, R144, R168) -/

/-- Removal where no soft restart waits for the bus: the bus changes beside its jobs' ends (R62). -/
theorem removeBus_eq (h : s.bus.stopping = false) : s.removeBus i =
    ({ s with bus := s.bus.withoutSlot i (s.servingSlot i) }.markCabinet).completeEach
      ((cellsFor i s.bus.queue).map fun c => ⟨c, .noBoard, 0, []⟩) := by
  have hbeside : BesideJobs fun t : State => { t with bus := s.bus.withoutSlot i (s.servingSlot i) }.markCabinet :=
    ⟨fun _ => rfl, fun _ => rfl, fun _ _ _ => rfl⟩
  simp only [State.removeBus, h, Bool.false_and, Bool.false_eq_true, if_false, completeAll_completeEach]
  exact hbeside.completeEach ..

/-- The router with a slot's maps gone, and its pins idle if it drove them (R144, R149). -/
def Router.withoutSlot (i : Slot) (r : Router) : Router :=
  let t := { r with maps := r.maps.set i ControlMap.blank, pendingMaps := r.pendingMaps.set i none }
  if t.driven = some i then t.driveNone else t

theorem Router.withoutSlot_maps (i : Slot) (r : Router) : (r.withoutSlot i).maps = r.maps.set i ⟨0, []⟩ := by
  unfold Router.withoutSlot
  extract_lets t
  split <;> rfl

theorem Router.withoutSlot_pendingMaps (i : Slot) (r : Router) :
    (r.withoutSlot i).pendingMaps = r.pendingMaps.set i none := by
  unfold Router.withoutSlot
  extract_lets t
  split <;> rfl

theorem Router.withoutSlot_driven (i : Slot) (r : Router) : (r.withoutSlot i).driven ≠ some i := by
  unfold Router.withoutSlot
  extract_lets t
  split
  · simp [Router.driveNone, Router.resetStates, Router.idlePins]
  · assumption

theorem removeRouter_eq (s : State) (i : Slot) : s.removeRouter i =
    ({ s with router := s.router.withoutSlot i }).completeEach
      ((s.router.pendingMaps.get i).toList.map fun p : ControlMap × CellNo => ⟨p.2, .noBoard, 0, []⟩) := by
  have hbeside : BesideJobs fun t : State => { t with router := t.router.withoutSlot i } :=
    ⟨fun _ => rfl, fun _ => rfl, fun _ _ _ => rfl⟩
  refine Eq.trans ?_ (hbeside.completeEach ..)
  unfold State.removeRouter
  cases s.router.pendingMaps.get i <;> rfl

/-- The jobs that a removal ends, the POWER job with the draw `n` (R24, R40, R62, R144). -/
def State.removalEnds (s : State) (i : Slot) (n : Nat) : List Ending :=
  (s.slot i).jobCell.toList.map (fun c => ⟨c, .noBoard, 0, [0, (s.slot i).mask.toNat, n]⟩) ++
    (s.bus.queue.filter fun q => decide (q.slot = i)).flatMap (fun q => q.cells.map fun c => ⟨c, .noBoard, 0, []⟩) ++
    (s.router.pendingMaps.get i).toList.map fun p => ⟨p.2, .noBoard, 0, []⟩

/-- What a removal does beside the ends of the jobs (R23, R62, R66, R144, R168). -/
def State.emptied (s : State) (i : Slot) : State := { s with
  slots := s.slots.set i { SlotRec.reset with reason := .removed }, warm := s.warm.erase i,
  bus := s.bus.withoutSlot i (s.servingSlot i),
  sync := { s.sync with records := s.sync.records.set (.slot i) (SyncRec.blank .empty) },
  credit := (s.removeCredit i).credit, router := s.router.withoutSlot i,
  pins := { s.pins with presence := s.pins.presence.set i false },
  pages := (s.markCabinet.markSource (.slot i)).pages }

/-- The steps of a removal in their order, the jobs' ends set aside. -/
theorem emptied_steps (s : State) (i : Slot) :
    { (({ s.emptySlot i with bus := s.bus.withoutSlot i (s.servingSlot i) }.markCabinet.emptyRecord i).removeCredit i) with
      router := s.router.withoutSlot i } = s.emptied i := by
  simp only [State.emptied, State.emptySlot, State.setSlot, State.markCabinet, State.markSource, State.mark,
    State.emptyRecord, State.setRecord, State.removeCredit, State.leaveAir]

theorem removeSlot_eq (hs : (s.slot i).state ≠ .empty) (h : Aside s i) (hstop : s.bus.stopping = false) :
    s.removeSlot i = (s.emptied i).completeEach (s.removalEnds i (s.emptySlot i).draw) := by
  have hbeside : BesideJobs fun t : State => (t.emptyRecord i).removeCredit i :=
    ⟨fun _ => rfl, fun _ => rfl, fun _ _ _ => rfl⟩
  let v := s.emptySlot i
  let es : List Ending := (s.slot i).jobCell.toList.map fun c => ⟨c, .noBoard, 0, v.powerData i (s.slot i).mask⟩
  let fs : List Ending := (cellsFor i s.bus.queue).map fun c => ⟨c, .noBoard, 0, []⟩
  let gs : List Ending := (s.router.pendingMaps.get i).toList.map fun p => ⟨p.2, .noBoard, 0, []⟩
  have hends : s.removalEnds i v.draw = es ++ fs ++ gs := by
    have hdata : v.powerData i (s.slot i).mask = [0, (s.slot i).mask.toNat, v.draw] := by
      have hslot : v.slot i = { SlotRec.reset with reason := .removed } := PerSlot.get_set_same ..
      rw [State.powerData, hslot]
      rfl
    simp only [State.removalEnds, es, fs, gs, hdata, cellsFor, List.map_flatMap]
  have hframe := completeEach_frame es v
  have hbus : (v.completeEach es).removeBus i =
      ({ v with bus := s.bus.withoutSlot i (s.servingSlot i) }.markCabinet).completeEach (es ++ fs) := by
    have hb : BesideJobs fun t : State => { t with bus := s.bus.withoutSlot i (s.servingSlot i) }.markCabinet :=
      ⟨fun _ => rfl, fun _ => rfl, fun _ _ _ => rfl⟩
    have hkeep : (v.completeEach es).bus = s.bus := by rw [hframe]; rfl
    have hserving : (v.completeEach es).servingSlot i = s.servingSlot i := by
      unfold State.servingSlot State.serving
      rw [hkeep]
    rw [removeBus_eq (by rw [hkeep]; exact hstop), hkeep, hserving, completeEach_append]
    exact congrArg (State.completeEach · fs) (hb.completeEach ..)
  have hrouter (u : State) (l : List Ending) (hr : u.router = s.router) : (u.completeEach l).removeRouter i =
      ({ u with router := s.router.withoutSlot i }).completeEach (l ++ gs) := by
    have hb : BesideJobs fun t : State => { t with router := s.router.withoutSlot i } :=
      ⟨fun _ => rfl, fun _ => rfl, fun _ _ _ => rfl⟩
    have hkeep : (u.completeEach l).router = s.router := by rw [completeEach_frame]; exact hr
    rw [removeRouter_eq, hkeep, completeEach_append]
    exact congrArg (State.completeEach · gs) (hb.completeEach ..)
  have hm : ((((v.completeEach es).removeBus i).emptyRecord i).removeCredit i).removeRouter i =
      (s.emptied i).completeEach (es ++ fs ++ gs) := by
    rw [hbus, ← emptied_steps]
    exact (congrArg (State.removeRouter · i) (hbeside.completeEach ..)).trans (hrouter _ _ rfl)
  have hside : Aside ((s.emptied i).completeEach (es ++ fs ++ gs)) i := by
    rw [completeEach_frame]
    exact h
  have hremove : s.removeSlot i = (((((v.completeEach es).removeBus i).emptyRecord i).removeCredit i).removeRouter
      i).controllerSlotFails i .removed := by
    rw [State.removeSlot, if_neg hs, answerJob_completeEach]
  rw [hremove, hm, controllerSlotFails_aside hside, hends]

theorem emptied_slots (s : State) (i : Slot) :
    (s.emptied i).slots = s.slots.set i { SlotRec.reset with reason := .removed } := rfl

/-- A slot with its board gone draws nothing, whatever copy it leaves (R37). -/
theorem emptied_draw (s : State) (i : Slot) : (s.emptied i).draw = (s.emptySlot i).draw := by
  have hslot (t : State) (h : t.slots = s.slots.set i { SlotRec.reset with reason := .removed }) : t.slotDraw i = 0 :=
    slotDraw_unpowered (by rw [State.slot, h, PerSlot.get_set_same]; rfl)
  have h := draw_change (t := s.emptied i) (s := s.emptySlot i) (i := i) fun k hk =>
    slotDraw_congr rfl (PerSlot.get_set_other _ hk _)
  rwa [hslot _ rfl, hslot _ rfl] at h

/-- Removal clears the slot's pages' words, and takes no mark away. -/
theorem emptied_marks (s : State) (i : Slot) : OnlyMarks s (s.emptied i) :=
  (((OnlyMarks.refl s).mark .cabinet).mark (.source (.slot i))).congr rfl

theorem servingSlot_phase (s : State) (i : Slot) : (if s.servingSlot i then .idle else s.bus.phase) =
    if s.bus.queue.head?.map BusRequest.slot = some i then .idle else s.bus.phase := by
  unfold State.servingSlot State.serving
  cases s.bus.phase <;> cases s.bus.queue.head? <;> simp

theorem withoutSlot_recovery (i : Slot) (b : Bool) (bus : Bus) : (bus.withoutSlot i b).recovery.map Prod.fst ≠ some i := by
  unfold Bus.withoutSlot
  rcases bus.recovery with _ | ⟨j, left⟩
  · simp
  · by_cases hj : j = i <;> simp [hj]

/-- What the credit unit does as a slot's board goes (R167, R168). -/
theorem removeCredit_credit (s : State) (i : Slot) : (s.removeCredit i).credit = { s.credit with
    feed := s.credit.feed.set i false, pending := s.credit.pending.set i 0, pulses := s.credit.pulses.set i none,
    bank := s.credit.bank + min (s.credit.pending.get i) (9999 - s.credit.bank),
    unbanked := s.credit.unbanked +
      BitVec.ofNat 32 (s.credit.pending.get i - min (s.credit.pending.get i) (9999 - s.credit.bank)) } := rfl

/-- Settles O39: the jobs' ends come beside what else the removal does. -/
theorem removalEmptiesSlot : Obligations.RemovalEmptiesSlot := by
  intro s i hs h hstop
  let m := s.emptied i
  let es := s.removalEnds i m.draw
  have hm : s.removeSlot i = m.completeEach es := by
    rw [removeSlot_eq hs h hstop, ← emptied_draw]
  have hwin : m.window = s.window := rfl
  have hint : m.intake = s.intake := rfl
  have hcell (c : CellNo) : m.cell c = s.cell c := by rw [State.cell, hint]; rfl
  have hjobs (hw : s.window.wf = true) (hheld : Held s (es.map Ending.cell)) :
      JobsEnd s { m.completeEach es with pages := remarkPages s (m.completeEach es) } m.intake es :=
    jobs_end hw hwin hheld.1 (fun e he => (hcell _).trans (hheld.2 _ (List.mem_map_of_mem he))) (emptied_marks s i)
  have hdone (c : CellNo) (hc : s.cell c = .taken) (hmem : c ∈ es.map Ending.cell) : (m.completeEach es).cell c = .done :=
    completeEach_done ((hcell c).trans hc) hmem
  have hmarks : OnlyMarks s (m.completeEach es) := (emptied_marks s i).congr (by rw [completeEach_frame])
  have hrequest (q : BusRequest) (hq : q ∈ s.bus.queue) (hi : q.slot = i) (c : CellNo) (hc : c ∈ q.cells) :
      c ∈ es.map Ending.cell := by
    simp only [es, State.removalEnds, List.map_append, List.map_flatMap, List.mem_append, List.mem_flatMap,
      List.mem_filter, decide_eq_true_eq]
    exact .inl (.inr ⟨q, ⟨hq, hi⟩, by simpa using hc⟩)
  have hpower (c : CellNo) (hc : (s.slot i).jobCell = some c) : c ∈ es.map Ending.cell := by
    simp [es, State.removalEnds, hc]
  have hmap (p : ControlMap) (c : CellNo) (hc : s.router.pendingMaps.get i = some (p, c)) : c ∈ es.map Ending.cell := by
    simp [es, State.removalEnds, hc]
  have hslot : m.slot i = { SlotRec.reset with reason := .removed } := PerSlot.get_set_same ..
  have hslots : m.slots = s.slots.set i { SlotRec.reset with reason := .removed } := emptied_slots s i
  have hwarm : m.warm = s.warm.erase i := rfl
  have hsupply : m.supplyOn i = false := congrArg (fun r : SlotRec => r.state.powered) hslot
  have hreset : m.resetAsserted i = true := congrArg (fun r : SlotRec => !r.state.resetReleased) hslot
  have hbus : m.bus = s.bus.withoutSlot i (s.servingSlot i) := rfl
  have hsync : m.sync = { s.sync with records := s.sync.records.set (.slot i) (SyncRec.blank .empty) } := rfl
  have hrouter : m.router = s.router.withoutSlot i := rfl
  have hcredit : m.credit = _ := removeCredit_credit (s.emptySlot i) i
  have hm' : ∃ slots warm bus sync credit router pins pages, m = { s with
      slots := slots, warm := warm, bus := bus, sync := sync, credit := credit, router := router, pins := pins,
      pages := pages } := ⟨_, _, _, _, _, _, _, _, rfl⟩
  obtain ⟨w, n, hu⟩ : ∃ w n, m.completeEach es = { m with window := w, intake := n } := ⟨_, _, completeEach_frame ..⟩
  rw [hu] at hm hjobs hdone hmarks
  have hes : es = s.removalEnds i m.draw := rfl
  clear_value es m
  subst hes
  obtain ⟨slots, warm, bus, sync, credit, router, pins, pages, rfl⟩ := hm'
  subst hslots hwarm hbus hsync hrouter hcredit
  refine ⟨_, (congrArg (finish s) hm).trans (finish_eq ..), rfl, rfl, hsupply, hreset, PerSlot.get_set_same .., rfl,
    servingSlot_phase s i, PerSlot.get_set_same .., PerSlot.get_set_same .., fun h => withoutSlot_recovery _ _ _ h, rfl, rfl,
    Router.withoutSlot_maps .., Router.withoutSlot_pendingMaps .., fun h => Router.withoutSlot_driven _ _ h,
    fun q hq hi c hc ht => hdone c ht (hrequest q hq hi c hc), fun c hc ht => hdone c ht (hpower c hc),
    fun p c hc ht => hdone c ht (hmap p c hc), hjobs, rfl, OnlyMarks.finish hmarks⟩

end
end Sys2Proof.Machine
end

section
namespace Sys2Proof.Machine

/-! ### Jobs that end beside other changes (R10) -/

section
variable {s : State} {i : Slot}

/-- A command whose effect is that of `m` beside the ends of jobs. -/
theorem ended_by {s m : State} {es : List Ending} {x : Host.Outcome State Fault Refusal}
    (hx : x = finish s (m.completeEach es)) (hwf : s.window.wf = true) (hwin : m.window = s.window)
    (hint : m.intake = s.intake) (hmarks : OnlyMarks s m) (hheld : Held s (es.map Ending.cell)) :
    ∃ w n p, x = .next { m with window := w, intake := n, pages := p } ∧
      JobsEnd s { m with window := w, intake := n, pages := p } s.intake es ∧
      ∀ id, (m.pages.get id).mark = true → (p.get id).mark = true := by
  have hcell (c : CellNo) : m.cell c = s.cell c := by rw [State.cell, hint]; rfl
  have hjobs := jobs_end (s := s) (m := m) (es := es) hwf hwin hheld.1
    (fun e he => (hcell _).trans (hheld.2 _ (List.mem_map_of_mem he))) hmarks
  have hkeep (id : PageId) (h : (m.pages.get id).mark = true) :
      ((remarkPages s (m.completeEach es)).get id).mark = true := by
    refine remarkPages_keeps _ _ _ ?_
    rwa [completeEach_frame]
  have ht : ({ m.completeEach es with pages := remarkPages s (m.completeEach es) } : State) = { m with
      window := (m.completeEach es).window, intake := (m.completeEach es).intake,
      pages := remarkPages s (m.completeEach es) } :=
    congrArg (fun u : State => { u with pages := remarkPages s (m.completeEach es) }) (completeEach_frame es m)
  rw [hint, ht] at hjobs
  exact ⟨_, _, _, hx.trans ((finish_eq ..).trans (congrArg _ ht)), hjobs, hkeep⟩

/-! ### The end of an AUTOLOAD or RELOAD (R25, R26, R53 to R56) -/

/-- The slot with its new copy, beside its level and its jobs (R25, R26, R55, R66, R144). -/
def State.stored (s : State) (i : Slot) (d : Descriptor) : State := { s with
  pages := (s.markCabinet.markSource (.slot i)).pages,
  slots := s.slots.set i { s.slot i with state := .off, restarts := d.allowance },
  bus := { s.bus with
    queue := s.bus.queue.tail, phase := .idle, stopping := false, copies := s.bus.copies.set i (some d),
    undescribed := s.bus.undescribed.set i .none },
  sync := { s.sync with records := s.sync.records.set (.slot i) (SyncRec.blank .silent) },
  router := { s.router with maps := s.router.maps.set i ((s.router.maps.get i).fitted d.pinCount) } }

theorem stored_marks (s : State) (i : Slot) (d : Descriptor) : OnlyMarks s (s.stored i d) :=
  (((OnlyMarks.refl s).mark .cabinet).mark (.source (.slot i))).congr (by rfl)

/-- How the attached jobs of a load that succeeds end (R55). -/
def loadEnds (cells : List CellNo) (d : Descriptor) : List Ending := cells.map fun c => ⟨c, .ok, 0, [d.title, d.drawClass]⟩

theorem loaded_steps (s : State) (i : Slot) (d : Descriptor) (cells : List CellNo) : s.dequeue.loaded i d cells =
    ((((s.stored i d).setRatio (.slot i) d.ratio).completeEach (loadEnds cells d)).checkPending i).ratioAnnounced
      (.slot i) := by
  have h : ((((s.dequeue.setCopy i (some d)).setUndescribed i .none).modSlot i fun r =>
      { r with state := .off, restarts := d.allowance }).wakeRecord i).refitMap i d = s.stored i d := by
    simp only [State.stored, State.dequeue, State.markCabinet, State.markSource, State.mark, State.setCopy,
      State.setUndescribed, State.modSlot, State.setSlot, State.wakeRecord, State.setRecord, State.refitMap]
    rfl
  rw [State.loaded, completeAll_completeEach]
  simp only [h]
  rfl

/-- The map that stays, as every entry reaches a pin that there is (R144). -/
theorem fitted_eq (n : Nat) (m : ControlMap) :
    m.fitted n = if ∀ e, e ∈ m.entries → e.pin + (e.last - e.first) < n then m else ⟨0, []⟩ := by
  unfold ControlMap.fitted
  simp only [List.all_eq_true, decide_eq_true_eq]
  rfl

theorem setRatio_other {src : Source} (h : s.audio.wanted ≠ some src) (n : Nat) :
    s.setRatio src n = { s with audio := { s.audio with ratios := s.audio.ratios.set src n } } := if_neg h

/-- The ratio of the source heard in FADE_IN sets the target, at which the level stands at once with no ramp (R178). -/
theorem setRatio_fadeIn {src : Source} (hw : s.audio.wanted = some src) (hx : s.audio.crosspoint = some src)
    (hp : s.ho.phase = .fadeIn) (n : Nat) :
    s.setRatio src n = { s with audio := { s.audio with
      ratios := s.audio.ratios.set src n, target := levelFormula s.audio.master n s.audio.floor,
      current := if s.audio.ramp = 0 then levelFormula s.audio.master n s.audio.floor else s.audio.current } } := by
  let v : State := { s with audio := { s.audio with ratios := s.audio.ratios.set src n } }
  have ht : v.audioTarget = levelFormula s.audio.master n s.audio.floor := by
    simp [State.audioTarget, v, hw, hx, hp]
  have hstay : v.retarget.crossover = v.retarget := if_neg fun hc => hc.1 (hx.trans hw.symm)
  have hset : s.setRatio src n = v.retarget := (if_pos hw).trans hstay
  rw [hset, State.retarget, ht]

theorem returnToQuiet_stable (h : s.toQuiet.onAirUnstable = none) : s.returnToQuiet = s.toQuiet := by
  simp only [State.returnToQuiet, h]

theorem takeUpWaiting_none (h : s.ho.waiting = none) : s.takeUpWaiting = s := by
  simp only [State.takeUpWaiting, h]

/-- The hand-over at rest, its job gone (R100). -/
def HandOver.rested (h : HandOver) : HandOver := { h with
  phase := .quiet, kind := .none, outgoing := none, target := none, active := none, frames := 0,
  rough := false, cold := false, fromHold := false, cancelled := false, releaseTimer := none }

theorem toQuiet_marks (s : State) : ∃ pages, s.toQuiet = { s with
    pages := pages, ho := { s.ho.rested with active := s.ho.active }, raster := { s.raster with cutArm := none } } ∧
    OnlyMarks s s.toQuiet := by
  unfold State.toQuiet State.setPhase
  split
  · exact ⟨_, rfl, (OnlyMarks.refl s).congr (by rfl)⟩
  · exact ⟨_, rfl, ((OnlyMarks.refl s).mark .cabinet).congr (by rfl)⟩

/-- How the hand-over's job, if any, ends at the end of FADE_IN with `src` on air (R113, R115). -/
def State.fadeInEnds (s : State) (src : Source) : List Ending := s.ho.active.toList.map fun a =>
  if s.ho.cancelled then ⟨a.cell, .ok, 0x8000, [src.number, 0, 0, 0]⟩
  else ⟨a.cell, .ok,
    (if s.ho.rough then 1 else 0) + (if s.ho.cold then 2 else 0) + (if s.ho.fromHold then 4 else 0),
    [src.number, s.ho.frames, s.ho.evicted.toNat, s.ho.carried]⟩

theorem completeActiveOk_eq {src : Source} (h : s.ho.onAir = some src) : s.completeActiveOk =
    ({ s with ho.active := none }).completeEach (s.fadeInEnds src) := by
  have hb : BesideJobs fun t : State => { t with ho.active := none } := ⟨fun _ => rfl, fun _ => rfl, fun _ _ _ => rfl⟩
  refine Eq.trans ?_ (hb.completeEach ..)
  unfold State.completeActiveOk State.completeActive State.fadeInEnds
  cases ha : s.ho.active with
  | none =>
    have hsame : ({ s with ho.active := none } : State) = s := by rw [← ha]
    split <;> exact hsame.symm
  | some a => split <;> simp_all [State.completeEach, sourceField, HandOver.okFlags]

theorem toQuiet_beside : BesideJobs State.toQuiet where
  window s := by
    unfold State.toQuiet State.setPhase
    split <;> rfl
  intake s := by
    unfold State.toQuiet State.setPhase
    split <;> rfl
  same s w n := by
    unfold State.toQuiet State.setPhase
    dsimp only
    split <;> rfl

/-- The end of FADE_IN with a slot on air that is not LOST, and no job waiting, after other jobs' ends (R113, R136). -/
theorem fadeInEnd_slot (es : List Ending) (hair : s.ho.onAir = some (.slot i)) (hs : (s.slot i).state ≠ .lost) :
    ∃ pages, (s.completeEach es).fadeInEnd = ({ s with
      pages := pages, ho := s.ho.rested, raster := { s.raster with cutArm := none } }).completeEach
        (es ++ s.fadeInEnds (.slot i)) ∧ OnlyMarks s { s with pages := pages } := by
  let v : State := { s with ho.active := none }
  let fs := es ++ s.fadeInEnds (.slot i)
  have hbeside : BesideJobs fun t : State => { t with ho.active := none } :=
    ⟨fun _ => rfl, fun _ => rfl, fun _ _ _ => rfl⟩
  have hframe := completeEach_frame es s
  have hok : (s.completeEach es).completeActiveOk = v.completeEach fs := by
    have hends : (s.completeEach es).fadeInEnds (.slot i) = s.fadeInEnds (.slot i) := by
      rw [hframe]
      rfl
    rw [completeActiveOk_eq (src := .slot i) (by rw [hframe]; exact hair), hends, completeEach_append]
    exact congrArg (State.completeEach · _) (hbeside.completeEach ..)
  obtain ⟨pages, hq, hmarks⟩ := toQuiet_marks v
  have hquiet : (v.completeEach fs).toQuiet = v.toQuiet.completeEach fs := toQuiet_beside.completeEach ..
  have hstable : (v.toQuiet.completeEach fs).onAirUnstable = none := by
    rw [completeEach_frame, hq]
    simp only [State.onAirUnstable, HandOver.rested, v, hair]
    exact if_neg hs
  refine ⟨pages, ?_, OnlyMarks.congr hmarks (by rw [hq])⟩
  rw [State.fadeInEnd, hok, returnToQuiet_stable (by rw [hquiet]; exact hstable), hquiet, hq]
  rfl

/-- A load that succeeds at the end of its read (R48, R54, R55). -/
theorem exec_loaded {q : BusRequest} {bytes : List Byte} (hphase : s.bus.phase = .reading) (hrun : s.running = some q)
    (hload : q.isLoad = true) (hlen : bytes.length = q.len) (hvalid : descriptorFailure bytes = none) :
    exec (.readTransactionEnd bytes) s = finish s (s.dequeue.loaded q.slot (descriptorOf bytes) q.cells) := by
  have hend : s.endRead bytes = s.readDone q bytes := by simp only [State.endRead, hrun, if_pos (And.intro hphase hlen)]
  have hdone : s.readDone q bytes = s.dequeue.loaded q.slot (descriptorOf bytes) q.cells := by
    simp only [State.readDone, hload, if_true, hvalid]
  exact congrArg (finish s) (hend.trans hdone)

/-- The pending power-up of a slot that loads, checked beside the ends of the attached jobs (R28). -/
theorem checkPending_beside {m : State} {p : PowerUp} {d : Descriptor} (es : List Ending)
    (hup : (m.slot i).powerUp = some p) (hho : p.handOver = none) (hcopy : m.copy i = some d)
    (hfit : m.draw + d.drawClass ≤ m.budget) : (m.completeEach es).checkPending i = ({ m with
      slots := m.slots.set i ((m.slot i).poweredFor (d.settle * 10) 0), warm := i :: m.warm.erase i }).completeEach es := by
  have hb : BesideJobs fun t : State => { t with
      slots := t.slots.set i ((t.slot i).poweredFor (d.settle * 10) 0), warm := i :: t.warm.erase i } :=
    ⟨fun _ => rfl, fun _ => rfl, fun _ _ _ => rfl⟩
  have hframe := completeEach_frame es m
  refine (checkPending_fits (p := p) ?_ hho ?_ ?_).trans (hb.completeEach ..)
  · rw [hframe]; exact hup
  · rw [hframe]; exact hcopy
  · rw [hframe]; exact hfit

theorem stored_slot (s : State) (i : Slot) (d : Descriptor) :
    (s.stored i d).slot i = { s.slot i with state := .off, restarts := d.allowance } := PerSlot.get_set_same ..

/-- The attached jobs of a load that succeeds end with the slot in OFF, where no power-up is kept (R26, R55). -/
theorem checkPending_stored {m : State} {d : Descriptor} (hm : m.slots = (s.stored i d).slots)
    (hup : (s.slot i).powerUp = none) (es : List Ending) : (m.completeEach es).checkPending i = m.completeEach es := by
  refine checkPending_none ?_
  rw [completeEach_frame]
  show (m.slots.get i).powerUp = none
  rw [hm]
  exact (congrArg SlotRec.powerUp (stored_slot s i d)).trans hup

/-- The end of a load that succeeds, for a source that is not heard (R26, R55). -/
theorem loaded_other {d : Descriptor} {cells : List CellNo} (hw : s.audio.wanted ≠ some (.slot i))
    (hup : (s.slot i).powerUp = none) : s.dequeue.loaded i d cells = ({ s.stored i d with
      audio := { s.audio with ratios := s.audio.ratios.set (.slot i) d.ratio } }).completeEach (loadEnds cells d) := by
  let m : State := { s.stored i d with audio := { s.audio with ratios := s.audio.ratios.set (.slot i) d.ratio } }
  have hm : (s.stored i d).setRatio (.slot i) d.ratio = m := setRatio_other (s := s.stored i d) hw _
  rw [loaded_steps, hm, checkPending_stored (m := m) rfl hup]
  refine ratioAnnounced_other ?_
  rw [completeEach_frame]
  exact hw

/-- The unit's state as the ratio of the source that is heard becomes `n`, the level being at `level` (R178). -/
def State.heardRatio (s : State) (i : Slot) (n level : Nat) : Audio := { s.audio with
  ratios := s.audio.ratios.set (.slot i) n, target := levelFormula s.audio.master n s.audio.floor, current := level }

/-- The end of a load that succeeds, for a source heard in FADE_IN (R113, R178). -/
theorem loaded_heard {d : Descriptor} {cells : List CellNo} (hw : s.audio.wanted = some (.slot i))
    (hx : s.audio.crosspoint = some (.slot i)) (hp : s.ho.phase = .fadeIn) (hup : (s.slot i).powerUp = none) :
    s.dequeue.loaded i d cells = (({ s.stored i d with
      audio := s.heardRatio i d.ratio (if s.audio.ramp = 0 then levelFormula s.audio.master d.ratio s.audio.floor
        else s.audio.current) }).completeEach (loadEnds cells d)).levelReached := by
  let m : State := { s.stored i d with
    audio := s.heardRatio i d.ratio (if s.audio.ramp = 0 then levelFormula s.audio.master d.ratio s.audio.floor
      else s.audio.current) }
  have hm : (s.stored i d).setRatio (.slot i) d.ratio = m := setRatio_fadeIn (s := s.stored i d) hw hx hp _
  rw [loaded_steps, hm, checkPending_stored (m := m) rfl hup]
  refine if_pos ?_
  rw [completeEach_frame]
  exact hw

theorem loaded_short {d : Descriptor} {cells : List CellNo} (hw : s.audio.wanted = some (.slot i))
    (hx : s.audio.crosspoint = some (.slot i)) (hp : s.ho.phase = .fadeIn) (hup : (s.slot i).powerUp = none)
    (hlevel : levelFormula s.audio.master d.ratio s.audio.floor ≠ s.audio.current) (hramp : 0 < s.audio.ramp) :
    s.dequeue.loaded i d cells = ({ s.stored i d with audio := s.heardRatio i d.ratio s.audio.current }).completeEach
      (loadEnds cells d) := by
  rw [loaded_heard hw hx hp hup, if_neg hramp.ne']
  refine levelReached_short ?_
  rw [completeEach_frame]
  exact hlevel.symm

/-- A load that brings the level to its target ends FADE_IN with its job (R113, R180). -/
theorem loaded_ends {d : Descriptor} {cells : List CellNo} (hw : s.audio.wanted = some (.slot i))
    (hx : s.audio.crosspoint = some (.slot i)) (hair : s.ho.onAir = some (.slot i)) (hp : s.ho.phase = .fadeIn)
    (hwait : s.ho.waiting = none) (hup : (s.slot i).powerUp = none)
    (hlevel : levelFormula s.audio.master d.ratio s.audio.floor = s.audio.current ∨ s.audio.ramp = 0) :
    ∃ pages, s.dequeue.loaded i d cells = ({ s.stored i d with
        pages := pages, ho := s.ho.rested, raster := { s.raster with cutArm := none },
        audio := s.heardRatio i d.ratio (levelFormula s.audio.master d.ratio s.audio.floor) }).completeEach
          (loadEnds cells d ++ s.fadeInEnds (.slot i)) ∧
      OnlyMarks s { s with pages := pages } := by
  have hcurrent : (if s.audio.ramp = 0 then levelFormula s.audio.master d.ratio s.audio.floor else s.audio.current) =
      levelFormula s.audio.master d.ratio s.audio.floor := by
    rcases hlevel with h | h <;> simp [h]
  let m : State := { s.stored i d with
    audio := s.heardRatio i d.ratio (levelFormula s.audio.master d.ratio s.audio.floor) }
  have hframe := completeEach_frame (loadEnds cells d) m
  have hslot : (m.slot i).state ≠ .lost := by
    have h : (m.slot i).state = .off := congrArg SlotRec.state (stored_slot s i d)
    rw [h]
    decide
  obtain ⟨pages, hend, hmarks⟩ := fadeInEnd_slot (s := m) (i := i) (loadEnds cells d) hair hslot
  refine ⟨pages, ?_, (stored_marks s i d).trans hmarks⟩
  have hreach : (m.completeEach (loadEnds cells d)).levelReached =
      (m.completeEach (loadEnds cells d)).fadeInEnd.takeUpWaiting :=
    levelReached_fadeIn (by rw [hframe]; rfl) (by rw [hframe]; exact hp)
  rw [loaded_heard hw hx hp hup, hcurrent, hreach, hend]
  refine takeUpWaiting_none ?_
  rw [completeEach_frame]
  exact hwait

/-- A load that succeeds powers the slot whose power-up was kept through it (R28, R30). -/
theorem loaded_kept {d : Descriptor} {cells : List CellNo} {p : PowerUp} (hw : s.audio.wanted ≠ some (.slot i))
    (hup : (s.slot i).powerUp = some p) (hho : p.handOver = none) (hs : (s.slot i).state = .loading)
    (hfit : s.draw + d.drawClass ≤ s.budget) : s.dequeue.loaded i d cells = ({ s.stored i d with
      slots := s.slots.set i { s.slot i with
        state := .settling, settle := some (d.settle * 10), start := none, grace := none, cool := none,
        overCount := 0, restarts := d.allowance, powerUp := some ⟨p.job, none, p.auto, 0⟩ },
      warm := i :: s.warm.erase i,
      audio := { s.audio with ratios := s.audio.ratios.set (.slot i) d.ratio } }).completeEach (loadEnds cells d) := by
  let m : State := { s.stored i d with audio := { s.audio with ratios := s.audio.ratios.set (.slot i) d.ratio } }
  have hm : (s.stored i d).setRatio (.slot i) d.ratio = m := setRatio_other (s := s.stored i d) hw _
  have hslot : m.slot i = { s.slot i with state := .off, restarts := d.allowance } := stored_slot s i d
  have hdraw : m.draw = s.draw := by
    have h := draw_change (t := m) (s := s) (i := i) fun k hk =>
      slotDraw_congr (congrArg SlotRec.state (PerSlot.get_set_other _ hk _)) (PerSlot.get_set_other _ hk _)
    rwa [slotDraw_unpowered (by rw [hs]; rfl), slotDraw_unpowered (by rw [hslot]; rfl)] at h
  have hcopy : m.copy i = some d := PerSlot.get_set_same ..
  have hcheck := checkPending_beside (i := i) (m := m) (p := p) (loadEnds cells d) (by rw [hslot]; exact hup) hho hcopy
    (by rw [hdraw]; exact hfit)
  have hpower : (m.slot i).poweredFor (d.settle * 10) 0 = { s.slot i with
      state := .settling, settle := some (d.settle * 10), start := none, grace := none, cool := none,
      overCount := 0, restarts := d.allowance, powerUp := some ⟨p.job, none, p.auto, 0⟩ } := by
    rw [hslot]
    simp only [SlotRec.poweredFor, SlotRec.settling, hup, Option.map_some, ← hho]
  rw [loaded_steps, hm, hcheck, hpower]
  have hslots (r : SlotRec) : m.slots.set i r = s.slots.set i r := PerSlot.set_set ..
  rw [hslots]
  refine ratioAnnounced_other ?_
  rw [completeEach_frame]
  exact hw

/-- A slot that settles with a new copy draws its class (R21). -/
theorem draw_of_settling {t : State} {d : Descriptor} (ht : ∀ k, k ≠ i → t.slot k = s.slot k)
    (hc : ∀ k, k ≠ i → t.copy k = s.copy k) (hs : (s.slot i).state.powered = false)
    (hp : (t.slot i).state = .settling) (hcopy : t.copy i = some d) : t.draw = s.draw + d.drawClass := by
  have h := draw_change (t := t) (s := s) (i := i) fun k hk => slotDraw_congr (by rw [ht k hk]) (hc k hk)
  rwa [slotDraw_unpowered hs, slotDraw_powered (by rw [hp]; rfl), drawClass_some hcopy] at h

/-! ### A load that fails (R26, R56) -/

theorem markSource_mark (s : State) (src : Source) : ((s.markSource src).pages.get (.source src)).mark = true :=
  congrArg Page.mark (Pages.get_set_same s.pages (.source src) _)

/-- The slot UNDESCRIBED, beside its jobs (R26, R56). -/
def State.unloaded (s : State) (i : Slot) (u : Undescribed) : State := { s with
  pages := (s.markCabinet.markSource (.slot i)).pages,
  slots := s.slots.set i { s.slot i with state := .undescribed, powerUp := none },
  bus := { s.bus with
    queue := s.bus.queue.tail, phase := .idle, stopping := false, undescribed := s.bus.undescribed.set i u } }

/-- How the jobs of a load that fails end, the POWER job of a kept power-up last (R56). -/
def State.unloadedEnds (s : State) (i : Slot) (u : Undescribed) (cells : List CellNo) : List Ending :=
  (cells.map fun c => ⟨c, .undescribed, u.detail, []⟩) ++
    (s.slot i).jobCell.toList.map fun c => ⟨c, .undescribed, u.detail, [2, 0, s.draw]⟩

theorem failPending_unasked {p : PowerUp} (h : p.handOver = none) (r : Result) (n : Nat) (reason : FailReason) :
    s.failPending i p r n reason =
      (s.modSlot i fun q => { q with powerUp := none }).answerJob i (some p) r n 0 := by
  simp only [State.failPending, h, Option.isSome_none, Bool.false_and, Bool.false_eq_true, if_false]

theorem loadFailed_eq {u : Undescribed} {cells : List CellNo} (hs : (s.slot i).state = .loading)
    (hho : (s.slot i).powerUp.bind PowerUp.handOver = none) :
    s.dequeue.loadFailed i u cells = (s.unloaded i u).completeEach (s.unloadedEnds i u cells) := by
  let m : State := { s.unloaded i u with slots := s.slots.set i { s.slot i with state := .undescribed } }
  let es : List Ending := cells.map fun c => ⟨c, .undescribed, u.detail, []⟩
  have hm : ((s.dequeue.setUndescribed i u).modSlot i fun r => { r with state := .undescribed }).markSource (.slot i) =
      m := by
    simp only [m, State.unloaded, State.dequeue, State.markCabinet, State.markSource, State.mark, State.setUndescribed,
      State.modSlot, State.setSlot]
    rfl
  have hslot : m.slot i = { s.slot i with state := .undescribed } := PerSlot.get_set_same ..
  have hbeside : BesideJobs fun t : State => t.modSlot i fun q => { q with powerUp := none } :=
    ⟨fun _ => rfl, fun _ => rfl, fun _ _ _ => rfl⟩
  have hcleared : m.modSlot i (fun q => { q with powerUp := none }) = s.unloaded i u := by
    have hslots : (s.slots.set i { s.slot i with state := .undescribed }).set i { m.slot i with powerUp := none } =
        s.slots.set i { s.slot i with state := .undescribed, powerUp := none } := by
      rw [hslot]
      exact PerSlot.set_set ..
    exact congrArg (fun l : PerSlot SlotRec => { s.unloaded i u with slots := l }) hslots
  have hkept : ((m.completeEach es).slot i).powerUp = (s.slot i).powerUp := by
    rw [completeEach_frame, ← show (m.slot i).powerUp = (s.slot i).powerUp by rw [hslot]]
    rfl
  have hmod : (m.completeEach es).modSlot i (fun q => { q with powerUp := none }) = (s.unloaded i u).completeEach es :=
    (hbeside.completeEach ..).trans (congrArg (State.completeEach · es) hcleared)
  have hdata : ((s.unloaded i u).completeEach es).powerData i 0 = [2, 0, s.draw] := by
    have hstate : ((s.unloaded i u).slot i).state = .undescribed := congrArg SlotRec.state (PerSlot.get_set_same ..)
    have hdraw := draw_change (t := s.unloaded i u) (s := s) (i := i) fun k hk =>
      slotDraw_congr (congrArg SlotRec.state (PerSlot.get_set_other _ hk _)) rfl
    rw [slotDraw_unpowered (by rw [hs]; rfl), slotDraw_unpowered (by rw [hstate]; rfl)] at hdraw
    rw [completeEach_frame]
    show [((s.unloaded i u).slot i).state.code, 0, (s.unloaded i u).draw] = _
    rw [hstate, Nat.add_right_cancel hdraw]
    rfl
  rw [State.loadFailed, hm, completeAll_completeEach]
  cases hup : (s.slot i).powerUp with
  | none =>
    simp only [show ((m.completeEach (cells.map fun c => ⟨c, .undescribed, u.detail, []⟩)).slot i).powerUp = none from
      hkept.trans hup]
    have hnone : ({ s.slot i with state := .undescribed } : SlotRec) =
        { s.slot i with state := .undescribed, powerUp := none } := by rw [← hup]
    have hcells : s.unloadedEnds i u cells = es := by
      simp [State.unloadedEnds, SlotRec.jobCell, hup, es]
    rw [hcells]
    show m.completeEach es = _
    simp only [m, hnone]
    rfl
  | some p =>
    have hp : p.handOver = none := by rwa [hup] at hho
    have hanswer := answerJob_completeEach ((s.unloaded i u).completeEach es) i (s.slot i) .undescribed u.detail 0
    rw [hup, hdata] at hanswer
    simp only [show ((m.completeEach (cells.map fun c => ⟨c, .undescribed, u.detail, []⟩)).slot i).powerUp = some p from
      hkept.trans hup]
    exact (failPending_unasked hp ..).trans
      ((congrArg (fun t : State => t.answerJob i (some p) .undescribed u.detail 0) hmod).trans
        (hanswer.trans (completeEach_append ..).symm))

theorem running_head {q : BusRequest} {rest : List BusRequest} (hphase : s.bus.phase = .reading)
    (hstop : s.bus.stopping = false) (hqueue : s.bus.queue = q :: rest) : s.running = some q := by
  simp [State.running, State.serving, hstop, hphase, hqueue]

/-- A load that fails at the end of its read (R54). -/
theorem exec_unvalid {q : BusRequest} {bytes : List Byte} {u : Undescribed} (hphase : s.bus.phase = .reading)
    (hrun : s.running = some q) (hload : q.isLoad = true) (hlen : bytes.length = q.len)
    (hfail : descriptorFailure bytes = some u) :
    exec (.readTransactionEnd bytes) s = finish s (s.dequeue.loadFailed q.slot u q.cells) := by
  have hend : s.endRead bytes = s.readDone q bytes := by simp only [State.endRead, hrun, if_pos (And.intro hphase hlen)]
  have hdone : s.readDone q bytes = s.dequeue.loadFailed q.slot u q.cells := by
    simp only [State.readDone, hload, if_true, hfail]
  exact congrArg (finish s) (hend.trans hdone)

/-- A load that fails at a missing acknowledge (R53). -/
theorem exec_nacked {q : BusRequest} {point : AckPoint} (hphase : s.bus.phase = .reading) (hrun : s.running = some q)
    (hload : q.isLoad = true) (hpoint : point = .deviceAddress ∨ point = .byteAddress ∨ point = .readAddress) :
    exec (.ackMissing point) s = finish s (s.dequeue.loadFailed q.slot .busNack q.cells) := by
  have hnack : s.nack point = s.readNack q := by
    rcases hpoint with rfl | rfl | rfl <;> simp only [State.nack, hrun, hphase]
  exact congrArg (finish s) (hnack.trans (if_pos hload))

theorem loadEnds_cells (cells : List CellNo) (d : Descriptor) : (loadEnds cells d).map Ending.cell = cells :=
  List.map_map.trans (List.map_id _)

theorem fadeInEnds_cells (s : State) (src : Source) :
    (s.fadeInEnds src).map Ending.cell = s.ho.active.toList.map SwitchJob.cell := by
  rw [State.fadeInEnds, List.map_map]
  refine List.map_congr_left fun a _ => ?_
  show (if s.ho.cancelled then _ else _ : Ending).cell = _
  split <;> rfl

theorem Held.left {cells more : List CellNo} (h : Held s (cells ++ more)) : Held s cells :=
  ⟨h.1.sublist (List.sublist_append_left ..), fun c hc => h.2 c (List.mem_append_left _ hc)⟩

/-- Settles O47: the load that succeeds, by what its slot is at the end, and the load that fails. -/
theorem autoloadEnds : Obligations.AutoloadEnds := by
  intro s q rest hwf hphase hstop hqueue hload
  have hrun := running_head hphase hstop hqueue
  have htail : s.bus.queue.tail = rest := by rw [hqueue]; rfl
  refine ⟨fun bytes hlen hvalid => ?_, fun command u hcommand hho hs hheld => ?_⟩
  · have hexec := exec_loaded hphase hrun hload hlen hvalid
    intro d ends off loaded
    have hfits := fitted_eq d.pinCount (s.router.maps.get q.slot)
    have hstored : s.stored q.slot d = { s with
        pages := (s.markCabinet.markSource (.slot q.slot)).pages, slots := off,
        bus := { s.bus with
          queue := rest, phase := .idle, stopping := false, copies := s.bus.copies.set q.slot (some d),
          undescribed := s.bus.undescribed.set q.slot .none },
        sync := { s.sync with records := s.sync.records.set (.slot q.slot) (SyncRec.blank .silent) },
        router := { s.router with
          maps := s.router.maps.set q.slot
            (if ∀ e, e ∈ (s.router.maps.get q.slot).entries → e.pin + (e.last - e.first) < d.pinCount
              then s.router.maps.get q.slot else ⟨0, []⟩) } } := by
      rw [State.stored, htail, hfits]
    have hmarks := stored_marks s q.slot d
    have hends : ends.map Ending.cell = q.cells := loadEnds_cells ..
    have hcells (h : Held s q.cells) : Held s (ends.map Ending.cell) := by rwa [hends]
    have hboth (h : Held s (q.cells ++ s.ho.active.toList.map SwitchJob.cell)) :
        Held s ((ends ++ s.fadeInEnds (.slot q.slot)).map Ending.cell) := by
      rwa [List.map_append, hends, fadeInEnds_cells]
    refine ⟨fun hw hheld hup => ?_, fun hw hx hair hp hwait hup hheld => ⟨fun hlevel hramp => ?_, fun hlevel => ?_⟩,
      fun p hw hheld hup hho hs hfit => ?_⟩
    · rw [loaded_other hw hup] at hexec
      obtain ⟨w, n, p, he, hjobs, -⟩ := ended_by hexec hwf rfl rfl (hmarks.congr rfl) (hcells hheld)
      rw [hstored] at he hjobs
      exact ⟨_, he, hjobs, ⟨rfl, rfl, rfl, rfl, rfl⟩, rfl, rfl, rfl, rfl⟩
    · rw [loaded_short hw hx hp hup hlevel hramp] at hexec
      obtain ⟨w, n, p, he, hjobs, -⟩ := ended_by hexec hwf rfl rfl (hmarks.congr rfl) (hcells hheld.left)
      rw [hstored] at he hjobs
      exact ⟨_, he, hjobs, ⟨rfl, rfl, rfl, rfl, rfl⟩, rfl, rfl, rfl, rfl⟩
    · obtain ⟨pages, hends, hpages⟩ := loaded_ends hw hx hair hp hwait hup hlevel
      rw [hends] at hexec
      obtain ⟨w, n, p, he, hjobs, -⟩ := ended_by hexec hwf rfl rfl (hpages.congr rfl) (hboth hheld)
      rw [hstored] at he hjobs
      exact ⟨_, he, hjobs, ⟨rfl, rfl, rfl, rfl, rfl⟩, rfl, rfl, rfl, rfl⟩
    · rw [loaded_kept hw hup hho hs hfit] at hexec
      obtain ⟨w, n, p, he, hjobs, -⟩ := ended_by hexec hwf rfl rfl (hmarks.congr rfl) (hcells hheld)
      rw [hstored] at he hjobs
      refine ⟨_, he, hjobs, ⟨rfl, rfl, rfl, rfl, rfl⟩, rfl, rfl, rfl,
        draw_of_settling (i := q.slot) (fun k hk => ?_) (fun k hk => ?_) (by rw [hs]; rfl) ?_ ?_, rfl⟩
      · exact PerSlot.get_set_other _ hk _
      · exact PerSlot.get_set_other _ hk _
      · exact congrArg SlotRec.state (PerSlot.get_set_same ..)
      · exact PerSlot.get_set_same ..
  · have hexec : exec command s = finish s ((s.unloaded q.slot u).completeEach (s.unloadedEnds q.slot u q.cells)) := by
      rw [← loadFailed_eq hs hho]
      rcases hcommand with ⟨bytes, hlen, rfl, hfail⟩ | ⟨point, hpoint, rfl, rfl⟩
      · exact exec_unvalid hphase hrun hload hlen hfail
      · exact exec_nacked hphase hrun hload hpoint
    obtain ⟨w, n, p, he, hjobs, hkeep⟩ := ended_by hexec hwf rfl rfl
      ((((OnlyMarks.refl s).mark .cabinet).mark (.source (.slot q.slot))).congr rfl) hheld
    rw [State.unloaded, htail] at he hjobs
    refine ⟨_, he, hjobs, rfl, rfl, hkeep _ ?_, rfl⟩
    exact markSource_mark s.markCabinet _

end
end Sys2Proof.Machine
end

section
namespace Sys2Proof.Machine

/-! ### Phases and readiness (R100, R108, R109) -/

section
variable {s t : State} {i : Slot} {j : SwitchJob}

theorem setPhase_eq (s : State) (p : Phase) : ∃ pages, s.setPhase p = { s with
    pages := pages, ho := { s.ho with phase := p },
    raster := { s.raster with cutArm := if p = .align then s.raster.cutArm else none } } ∧
    OnlyMarks s { s with pages := pages } := by
  unfold State.setPhase
  split
  · exact ⟨_, rfl, (OnlyMarks.refl s).congr (by rfl)⟩
  · exact ⟨_, rfl, ((OnlyMarks.refl s).mark .cabinet).congr (by rfl)⟩

theorem setPhase_beside (p : Phase) : BesideJobs (State.setPhase · p) where
  window s := by
    unfold State.setPhase
    dsimp only
    split <;> rfl
  intake s := by
    unfold State.setPhase
    dsimp only
    split <;> rfl
  same s w n := by
    unfold State.setPhase
    dsimp only
    split <;> rfl

theorem Reaches.congr {target : Source} {p : Phase} (h : Reaches s target p)
    (hstate : ∀ i, (t.slot i).state = (s.slot i).state) (hrecord : ∀ src, t.record src = s.record src)
    (hfits : ∀ src, t.fitsMonitor src = s.fitsMonitor src) : Reaches t target p := by
  cases target <;> simpa only [Reaches, Ready, Awaited, hstate, hrecord, hfits] using h

/-- Readiness judged in WAIT_TARGET with no cut arm (R108, R109). -/
theorem judge_reaches {target : Source} {p : Phase} (hphase : t.ho.phase = .waitTarget)
    (htarget : t.ho.target = some target) (harm : t.raster.cutArm = none) (h : Reaches t target p) :
    ∃ pages, t.judge = { t with pages := pages, ho := { t.ho with phase := p } } ∧
      OnlyMarks t { t with pages := pages } := by
  have hstays (hp : p = .waitTarget) (hj : t.judge = t) : ∃ pages, t.judge =
      { t with pages := pages, ho := { t.ho with phase := p } } ∧ OnlyMarks t { t with pages := pages } := by
    refine ⟨t.pages, ?_, OnlyMarks.refl t⟩
    rw [hj, hp, ← hphase]
  have hgoes (hp : p = .glide) (hj : t.judge = t.setPhase .glide) : ∃ pages, t.judge =
      { t with pages := pages, ho := { t.ho with phase := p } } ∧ OnlyMarks t { t with pages := pages } := by
    obtain ⟨pages, hq, hmarks⟩ := setPhase_eq t .glide
    refine ⟨pages, ?_, hmarks⟩
    rw [hj, hq, hp]
    simp only [reduceCtorEq, if_false, ← harm]
  cases target with
  | menu =>
    rcases h with ⟨hready, hp⟩ | ⟨hwaits, hp⟩
    · refine hgoes hp ?_
      simp only [State.judge, hphase, if_true, htarget, State.judgeMenu]
      exact if_pos hready
    · refine hstays hp ?_
      simp only [State.judge, hphase, if_true, htarget, State.judgeMenu]
      exact if_neg (by rw [State.isStable, hwaits]; decide)
  | slot i =>
    rcases h with ⟨⟨hrun, hstable, hfits⟩, hp⟩ | ⟨hwaits, hp⟩
    · refine hgoes hp ?_
      simp only [State.judge, hphase, if_true, htarget, State.isStable, hrun, hstable, hfits, and_self]
    · refine hstays hp ?_
      simp only [State.judge, hphase, if_true, htarget]
      refine if_neg fun hc => ?_
      rcases hwaits with hlost | ⟨-, hstable, -⟩
      · rw [hlost] at hc
        exact absurd hc.2 (by decide)
      · rw [State.isStable, hstable] at hc
        exact absurd hc.1 (by decide)

/-- A slot that is not RUNNING is not ready (R108). -/
theorem judge_unready (htarget : t.ho.target = some (.slot i)) (hs : (t.slot i).state ≠ .running) : t.judge = t := by
  simp only [State.judge, htarget, hs, and_false, if_false, ite_self]

/-! ### The start of a hand-over from HOLD (R102 to R104) -/

/-- The hand-over that a job starts from HOLD (R104). -/
def HandOver.starting (h : HandOver) (j : SwitchJob) (p : Phase) (cold : Bool) : HandOver := { h with
  phase := p, kind := .requested, outgoing := none, target := some j.target, active := some j, frames := 0,
  rough := false, cold := cold, fromHold := true, evicted := 0, cutFeed := j.feed, carry := j.carry, cancelled := false }

theorem startHandOver_fromHold (hair : s.ho.onAir = none) (cold : Bool) : ∃ pages, s.startHandOver j cold 0 = ({ s with
    pages := pages, ho := s.ho.starting j .waitTarget cold, raster := { s.raster with cutArm := none } }).judge ∧
    OnlyMarks s { s with pages := pages } := by
  let v : State := { s with ho := { s.ho.starting j s.ho.phase cold with fromHold := s.ho.onAir.isNone } }
  obtain ⟨pages, hq, hmarks⟩ := setPhase_eq v .waitTarget
  refine ⟨pages, ?_, hmarks⟩
  have hstart : s.startHandOver j cold 0 = (v.setPhase .waitTarget).judge := by
    unfold State.startHandOver State.adopt
    dsimp only
    split
    · next src h => exact absurd (hair.symm.trans h) (by simp)
    · rfl
  rw [hstart, hq]
  simp only [v, hair]
  rfl

theorem applyPin_slots (s : State) (j : SwitchJob) : s.applyPin j = { s with slots := (s.applyPin j).slots } := by
  unfold State.applyPin
  split
  · split <;> rfl
  · rfl

theorem applyPin_pins (s : State) (j : SwitchJob) : PinsTarget s (s.applyPin j) j.target j.pin := by
  intro i
  unfold State.applyPin
  cases hj : j.target with
  | menu => simp
  | slot k =>
    cases hp : j.pin with
    | false => simp
    | true =>
      simp only [if_true, Source.slot.injEq, and_true]
      rw [modSlot_slot]
      simp only [eq_comm]

theorem applyPin_state (s : State) (j : SwitchJob) (i : Slot) : ((s.applyPin j).slot i).state = (s.slot i).state := by
  rw [applyPin_pins s j i]
  split <;> rfl

theorem switchInQuiet_passed {w : State} {cold : Bool} {mask : Word}
    (h : (s.setPhase .prepare).prepare j = (.passed cold mask, w)) :
    s.switchInQuiet j = (w.applyPin j).startHandOver j cold mask := by
  simp only [State.switchInQuiet, h]

/-- The checks pass at once onto a target that needs no power-up (R103). -/
theorem prepare_reaches {p : Phase} (hair : s.ho.onAir = none) (h : Reaches s j.target p) :
    s.prepare j = (.passed false 0, s) := by
  unfold State.prepare
  rw [if_neg (by rw [hair]; simp)]
  cases ht : j.target with
  | menu => rfl
  | slot i =>
    rw [ht] at h
    simp only [State.prepareSlot]
    rcases h with ⟨⟨hrun, -, hfits⟩, -⟩ | ⟨hlost | ⟨hrun, -, hfits⟩, -⟩
    · simp only [hrun, hfits, if_true]
    · simp only [hlost]
    · simp only [hrun, hfits, if_true]

/-- The hand-over from HOLD onto a target that needs no power-up (R102 to R104, R108, R109). -/
theorem switchInQuiet_reaches {p : Phase} (hair : s.ho.onAir = none) (h : Reaches s j.target p) :
    ∃ pages, s.switchInQuiet j = { s with
      pages := pages, slots := (s.applyPin j).slots, ho := s.ho.starting j p false,
      raster := { s.raster with cutArm := none } } ∧ OnlyMarks s { s with pages := pages } := by
  obtain ⟨p₁, hq₁, hm₁⟩ := setPhase_eq s .prepare
  let w : State := { s with
    pages := p₁, ho := { s.ho with phase := .prepare }, raster := { s.raster with cutArm := none } }
  have hw : s.setPhase .prepare = w := hq₁
  have hprep : (s.setPhase .prepare).prepare j = (.passed false 0, w) := by
    rw [hw]
    exact prepare_reaches hair (h.congr (fun _ => rfl) (fun _ => rfl) fun _ => rfl)
  have hpin := applyPin_slots w j
  have hslots : (w.applyPin j).slots = (s.applyPin j).slots := by
    unfold State.applyPin
    split
    · split <;> rfl
    · rfl
  obtain ⟨p₂, hq₂, hm₂⟩ := startHandOver_fromHold (s := { w with slots := (s.applyPin j).slots }) (j := j) hair false
  let v : State := { s with
    pages := p₂, slots := (s.applyPin j).slots, ho := s.ho.starting j .waitTarget false,
    raster := { s.raster with cutArm := none } }
  obtain ⟨p₃, hq₃, hm₃⟩ := judge_reaches (t := v) rfl rfl rfl
    (h.congr (applyPin_state s j) (fun _ => rfl) fun _ => rfl)
  refine ⟨p₃, ?_, (hm₁.trans hm₂).trans hm₃⟩
  rw [switchInQuiet_passed hprep, hpin, hslots, hq₂]
  exact hq₃

/-- The state in which the checks of a job taken in QUIET run (R102). -/
def State.preparing (s : State) (pages : Pages) : State := { s with
  pages := pages, ho := { s.ho with phase := .prepare }, raster := { s.raster with cutArm := none } }

/-- The target slot of a job that passes, pinned or not (R39). -/
theorem applyPin_target (hj : j.target = .slot i) :
    (s.applyPin j).slot i = { s.slot i with pinned := (s.slot i).pinned || j.pin } := by
  rw [applyPin_pins s j i, hj]
  cases hp : j.pin <;> simp

theorem applyPin_other (hj : j.target = .slot i) {k : Slot} (hk : k ≠ i) : (s.applyPin j).slot k = s.slot k := by
  rw [applyPin_pins s j k, hj]
  exact if_neg fun h => hk (Source.slot.inj h.1).symm

/-- The hand-over from HOLD onto a slot that is powered for it, or waits for it, its record being `rec` (R102 to R104). -/
theorem switchInQuiet_cold {rec : SlotRec} {warm : List Slot} (hair : s.ho.onAir = none) (hj : j.target = .slot i)
    (hprep : ∀ pages, (s.preparing pages).prepare j =
      (.passed true 0, { s.preparing pages with slots := s.slots.set i rec, warm := warm }))
    (hs : rec.state ≠ .running) :
    ∃ pages slots, s.switchInQuiet j = { s with
      pages := pages, slots := slots, warm := warm, ho := s.ho.starting j .waitTarget true,
      raster := { s.raster with cutArm := none } } ∧ OnlyMarks s { s with pages := pages } ∧
      slots.get i = { rec with pinned := rec.pinned || j.pin } ∧ ∀ k, k ≠ i → slots.get k = s.slot k := by
  obtain ⟨p₁, hq₁, hm₁⟩ := setPhase_eq s .prepare
  let u : State := { s with slots := s.slots.set i rec }
  let w : State := { s.preparing p₁ with slots := s.slots.set i rec, warm := warm }
  have hu : u.slot i = rec := PerSlot.get_set_same ..
  have hstart : (s.setPhase .prepare).prepare j = (.passed true 0, w) := by
    rw [hq₁]
    exact hprep p₁
  have hpin := applyPin_slots w j
  have hslots : (w.applyPin j).slots = (u.applyPin j).slots := by
    unfold State.applyPin
    split
    · split <;> rfl
    · rfl
  obtain ⟨p₂, hq₂, hm₂⟩ := startHandOver_fromHold (s := { w with slots := (u.applyPin j).slots }) (j := j) hair true
  let v : State := { s with
    pages := p₂, slots := (u.applyPin j).slots, warm := warm, ho := s.ho.starting j .waitTarget true,
    raster := { s.raster with cutArm := none } }
  have hjudge : v.judge = v := by
    refine judge_unready (t := v) (i := i) (by rw [← hj]; rfl) ?_
    have hstate : (v.slot i).state = (u.slot i).state := applyPin_state u j i
    rwa [hstate, hu]
  refine ⟨p₂, (u.applyPin j).slots, ?_, hm₁.trans hm₂, ?_, fun k hk => ?_⟩
  · rw [switchInQuiet_passed hstart, hpin, hslots, hq₂]
    exact hjudge
  · exact (applyPin_target hj).trans (by rw [hu])
  · exact (applyPin_other hj hk).trans (PerSlot.get_set_other _ hk _)

theorem prepare_slot (hair : s.ho.onAir = none) (hj : j.target = .slot i) : s.prepare j = s.prepareSlot i j := by
  unfold State.prepare
  rw [if_neg (by rw [hair]; simp), hj]

/-- A cold target that is OFF is powered for the hand-over (R27, R30, R104). -/
theorem prepare_off {d : Descriptor} (hair : s.ho.onAir = none) (hj : j.target = .slot i)
    (hoff : (s.slot i).state = .off) (hup : (s.slot i).powerUp = none) (hcopy : s.copy i = some d)
    (hfit : s.draw + d.drawClass ≤ s.budget) : s.prepare j = (.passed true 0, { s with
      slots := s.slots.set i { s.slot i with
        state := .settling, settle := some (d.settle * 10), start := none, grace := none, cool := none,
        overCount := 0, restarts := d.allowance, powerUp := some ⟨none, some j.evict, false, 0⟩ },
      warm := i :: s.warm.erase i }) := by
  have hc := check_fits (e := (PowerUp.blank.join (.handOver j.evict)).evict)
    (by rwa [drawClass_some hcopy] : s.draw + s.drawClass i ≤ s.budget)
  have hreq := request_off hoff hc hcopy
  have hpower : (s.modSlot i (SlotRec.requested d (.handOver j.evict))).powerSlot i [] = { s with
      slots := s.slots.set i { s.slot i with
        state := .settling, settle := some (d.settle * 10), start := none, grace := none, cool := none,
        overCount := 0, restarts := d.allowance, powerUp := some ⟨none, some j.evict, false, 0⟩ },
      warm := i :: s.warm.erase i } := by
    rw [powerSlot_nil, figure_some (s := s.modSlot i (SlotRec.requested d (.handOver j.evict))) hcopy,
      modSlot_slot_same, modSlot_slots, PerSlot.set_set]
    simp only [SlotRec.poweredFor, SlotRec.settling, SlotRec.requested, SlotRec.join, hup, Option.getD_none,
      Option.map_some, PowerUp.join, PowerUp.blank]
    rfl
  rw [prepare_slot hair hj]
  simp only [State.prepareSlot, hoff, State.requestFor, hreq, hpower]
  rfl

/-- The controller joins the requesters of a target that cools (R27, R104). -/
theorem prepare_cooling {d : Descriptor} (hair : s.ho.onAir = none) (hj : j.target = .slot i)
    (hs : (s.slot i).state = .cooling) (hcopy : s.copy i = some d) : s.prepare j = (.passed true 0, { s with
      slots := s.slots.set i { s.slot i with
        restarts := d.allowance,
        powerUp := some { (s.slot i).powerUp.getD ⟨none, none, false, 0⟩ with handOver := some j.evict } } }) := by
  have hreq : s.request i (.handOver j.evict) = (.granted 0, s.modSlot i (SlotRec.requested d (.handOver j.evict))) := by
    rw [← join_reload hcopy]
    simp only [State.request, hs]
  have hask : s.prepareSlot i j = s.requestFor i j true := by
    simp only [State.prepareSlot, hs]
  rw [prepare_slot hair hj, hask, State.requestFor, hreq]
  rfl

/-! ### A SWITCH completed at its checks (R102, R103) -/

/-- A SWITCH that its checks complete leaves the phase QUIET, and no cut arm, as they were (R102). -/
theorem switchInQuiet_completes {v : Verdict} {r : Result} {n : Nat} {l : List Nat}
    (hphase : s.ho.phase = .quiet) (harm : s.raster.cutArm = none) (slots : PerSlot SlotRec)
    (hv : ∀ cold mask, v ≠ .passed cold mask)
    (hprep : ∀ pages, (s.preparing pages).prepare j = (v, s.preparing pages))
    (hdone : ∀ pages, (s.preparing pages).completeAtChecks j v =
      ({ s.preparing pages with slots := slots }).complete j.cell r n l) :
    ∃ pages, s.switchInQuiet j = ({ s with pages := pages, slots := slots }).complete j.cell r n l ∧
      OnlyMarks s { s with pages := pages } := by
  obtain ⟨p₁, hq₁, hm₁⟩ := setPhase_eq s .prepare
  obtain ⟨p₂, hq₂, hm₂⟩ := setPhase_eq ({ s.preparing p₁ with slots := slots }) .quiet
  refine ⟨p₂, ?_, hm₁.trans hm₂⟩
  have hstart : (s.setPhase .prepare).prepare j = (v, s.preparing p₁) := by
    rw [hq₁]
    exact hprep p₁
  have hend : s.switchInQuiet j = ((s.preparing p₁).completeAtChecks j v).setPhase .quiet := by
    cases v with
    | passed cold mask => exact absurd rfl (hv cold mask)
    | refused r detail => simp only [State.switchInQuiet, hstart]
    | present => simp only [State.switchInQuiet, hstart]
  have hrest : ({ s.preparing p₁ with slots := slots } : State).setPhase .quiet =
      { s with pages := p₂, slots := slots } := by
    have hho : ({ s.ho with phase := .quiet } : HandOver) = s.ho := by rw [← hphase]
    have hraster : ({ s.raster with cutArm := none } : Raster) = s.raster := by rw [← harm]
    rw [hq₂]
    exact congrArg₂ (fun h r => ({ s with pages := p₂, slots := slots, ho := h, raster := r } : State)) hho hraster
  have hcomplete := (setPhase_beside .quiet).completeEach ({ s.preparing p₁ with slots := slots }) [⟨j.cell, r, n, l⟩]
  rw [hend, hdone, ← hrest]
  exact hcomplete

theorem prepare_refused {r : Result} {n : Nat} (hj : j.target = .slot i) (hair : s.ho.onAir ≠ some (.slot i))
    (h : (s.slot i).state = .empty ∧ r = .noBoard ∧ n = 0 ∨
      (s.slot i).state = .loading ∧ (s.slot i).powerUp = none ∧ r = .noBoard ∧ n = 0 ∨
      (s.slot i).state = .undescribed ∧ r = .undescribed ∧ n = (s.bus.undescribed.get i).detail ∨
      (s.slot i).state = .fault ∧ r = .targetFailed ∧ n = 2 ∨
      (s.slot i).state = .running ∧ s.fitsMonitor (.slot i) = false ∧ r = .outOfRange ∧
        n = (s.record (.slot i)).lastP ∨
      (s.slot i).state = .off ∧ s.budget < s.draw + s.drawClass i ∧ j.evict = false ∧ r = .noBudget ∧ n = s.draw) :
    s.prepare j = (.refused r n, s) := by
  have hslot : s.prepare j = s.prepareSlot i j := by
    unfold State.prepare
    rw [hj, if_neg hair]
  rw [hslot]
  unfold State.prepareSlot
  rcases h with ⟨hs, rfl, rfl⟩ | ⟨hs, hup, rfl, rfl⟩ | ⟨hs, rfl, rfl⟩ | ⟨hs, rfl, rfl⟩ | ⟨hs, hfits, rfl, rfl⟩ |
    ⟨hs, hfull, he, rfl, rfl⟩
  · rw [hs]
  · have hreq : s.request i (.handOver j.evict) = (.noBoard, s) := by simp [State.request, hs, hup]
    rw [hs]
    simp only [State.requestFor, hreq]
    rfl
  · rw [hs]
  · rw [hs]
    rfl
  · rw [hs]
    simp [hfits]
  · have hc : s.check i (PowerUp.blank.join (.handOver j.evict)).evict = none := by
      rw [State.check, if_neg (by omega)]
      exact if_neg (by rw [he]; decide)
    have hreq : s.request i (.handOver j.evict) = (.noBudget s.draw, s) := by simp only [State.request, hs, hc]
    rw [hs]
    simp only [State.requestFor, hreq]
    rfl

theorem prepare_present (hair : s.ho.onAir = some j.target) (hphase : s.ho.phase = .prepare) :
    s.prepare j = (.present, s) := by
  simp only [State.prepare, hair, hphase, if_true]

theorem completeAtChecks_present (s : State) (j : SwitchJob) (pages : Pages) :
    (s.preparing pages).completeAtChecks j .present =
      ({ s.preparing pages with slots := (s.applyPin j).slots }).complete j.cell .ok 0x8000 [j.target.number, 0, 0, 0] := by
  have hslots : ((s.preparing pages).applyPin j).slots = (s.applyPin j).slots := by
    unfold State.applyPin
    split
    · split <;> rfl
    · rfl
  have hpin := applyPin_slots (s.preparing pages) j
  rw [hslots] at hpin
  exact congrArg (fun t : State => t.complete j.cell .ok 0x8000 [j.target.number, 0, 0, 0]) hpin

/-- Settles O21: the checks first, in the state in which they run, and then the start from HOLD or the end of the job. -/
theorem switchFromHold : Obligations.SwitchFromHold := by
  intro s j hj hphase
  have hd : Job.isKind 1 j = true := by simp [Job.isKind, hj.2.2]
  let u := s.take j.cell
  have hact (target : Source) (ht : Source.ofNumber (j.word 2) = some target) :
      switchJob j u = u.switchInQuiet (j.toSwitch target) := by
    have hu : u.ho.phase = .quiet := hphase
    simp only [switchJob, ht, State.takeSwitch, hu]
  have hmarks : OnlyMarks s u := (OnlyMarks.refl s).congr rfl
  refine ⟨fun target ht hair => ⟨fun p hreach => ?_, fun i d hi hoff hup hcopy hfit => ?_, fun i d hi hs hcopy => ?_⟩,
    fun harm r n h => ?_, fun harm src hair ht => ?_⟩
  · obtain ⟨pages, hq, hm⟩ := switchInQuiet_reaches (s := u) (j := j.toSwitch target) hair hreach
    obtain ⟨p', he, hwait, -⟩ := waits_at_take hj.2.1 hd ((hact target ht).trans hq) rfl rfl
      (OnlyMarks.congr (OnlyMarks.trans hmarks hm) (by rfl))
    exact ⟨_, he, hwait, rfl, rfl, applyPin_pins u (j.toSwitch target), rfl⟩
  · have hi' : (j.toSwitch target).target = .slot i := hi
    obtain ⟨pages, slots, hq, hm, hslot, hother⟩ := switchInQuiet_cold (s := u) (rec := { s.slot i with
        state := .settling, settle := some (d.settle * 10), start := none, grace := none, cool := none,
        overCount := 0, restarts := d.allowance, powerUp := some ⟨none, some (j.bit 4 1), false, 0⟩ })
      (warm := i :: s.warm.erase i) hair hi'
      (fun pages => prepare_off (s := u.preparing pages) hair hi' hoff hup hcopy hfit) (by simp)
    obtain ⟨p', he, hwait, -⟩ := waits_at_take hj.2.1 hd ((hact target ht).trans hq) rfl rfl
      (OnlyMarks.congr (OnlyMarks.trans hmarks hm) (by rfl))
    have hpowered : (slots.get i).state.powered = true := congrArg (fun r : SlotRec => r.state.powered) hslot
    have hreset : (!(slots.get i).state.resetReleased) = true := congrArg (fun r : SlotRec => !r.state.resetReleased) hslot
    exact ⟨_, he, hwait, rfl, rfl, hslot, hother, rfl, hpowered, hreset,
      draw_of_settling hother (fun _ _ => rfl) (by rw [hoff]; rfl) (congrArg SlotRec.state hslot) hcopy, rfl⟩
  · have hi' : (j.toSwitch target).target = .slot i := hi
    obtain ⟨pages, slots, hq, hm, hslot, hother⟩ := switchInQuiet_cold (s := u) (rec := { s.slot i with
        restarts := d.allowance,
        powerUp := some { (s.slot i).powerUp.getD ⟨none, none, false, 0⟩ with handOver := some (j.bit 4 1) } }) hair hi'
      (fun pages => prepare_cooling (s := u.preparing pages) hair hi' hs hcopy)
      fun h => absurd (hs.symm.trans h) (by decide)
    obtain ⟨p', he, hwait, -⟩ := waits_at_take hj.2.1 hd ((hact target ht).trans hq) rfl rfl
      (OnlyMarks.congr (OnlyMarks.trans hmarks hm) (by rfl))
    exact ⟨_, he, hwait, rfl, rfl, hslot, hother, rfl⟩
  · rcases h with ⟨hnone, rfl, rfl⟩ | ⟨i, ht, hair, h⟩
    · exact refused_at_take hj.1 hj.2.1 hd (by simp only [switchJob, hnone])
    · obtain ⟨pages, hq, hm⟩ := switchInQuiet_completes (s := u) (j := j.toSwitch (.slot i)) (v := .refused r n) (r := r)
        (n := n) (l := []) hphase harm s.slots (fun _ _ => Verdict.noConfusion)
        (fun pages => prepare_refused (s := u.preparing pages) rfl hair h) fun _ => rfl
      obtain ⟨w, m, p', he, hend, -⟩ := ended_at_take hj.1 hj.2.1 hd ((hact _ ht).trans hq) rfl rfl
        (OnlyMarks.congr (OnlyMarks.trans hmarks hm) (by rfl))
      exact ⟨_, he, hend, rfl⟩
  · obtain ⟨pages, hq, hm⟩ := switchInQuiet_completes (s := u) (j := j.toSwitch src) (v := .present) (r := .ok)
      (n := 0x8000) (l := [src.number, 0, 0, 0]) hphase harm (u.applyPin (j.toSwitch src)).slots
      (fun _ _ => Verdict.noConfusion) (fun pages => prepare_present (s := u.preparing pages) hair rfl)
      fun pages => completeAtChecks_present u (j.toSwitch src) pages
    obtain ⟨w, m, p', he, hend, -⟩ := ended_at_take hj.1 hj.2.1 hd ((hact _ ht).trans hq) rfl rfl
      (OnlyMarks.congr (OnlyMarks.trans hmarks hm) (by rfl))
    exact ⟨_, he, hend, applyPin_pins u (j.toSwitch src), rfl⟩

end
end Sys2Proof.Machine
end

section
namespace Sys2Proof.Machine

/-! ### Jobs that end at the take of another (R10, R117) -/

section
variable {s t : State} {i : Slot}

/-- Completions after changes beside them, told by their window and intake. -/
theorem completeEach_of {v m : State} {es : List Ending} (hwin : m.window = v.window) (hint : m.intake = v.intake) :
    ({ m with window := (v.completeEach es).window, intake := (v.completeEach es).intake } : State) = m.completeEach es := by
  have he := completeEach_over es hwin hint
  rw [completeEach_frame es m, he.1, he.2]

/-- Jobs that end as another is taken, with its own. -/
theorem jobs_at_take {m : State} {j : Job} {es : List Ending} (hw : s.window.wf = true) (hj : s.headJob = some j)
    {due : Job → Bool} {act : Job → State → State} (hd : due j = true)
    (hact : act j (s.take j.cell) = m.completeEach es) (hwin : m.window = s.window)
    (hint : m.intake = (s.take j.cell).intake) (hmarks : OnlyMarks s m) (hnd : (es.map Ending.cell).Nodup)
    (htaken : ∀ e, e ∈ es → (s.take j.cell).cell e.cell = .taken) :
    ∃ w n p, finish s (s.takeIf due act) = .next { m with window := w, intake := n, pages := p } ∧
      JobsEnd s { m with window := w, intake := n, pages := p } (s.taking j) es := by
  have hcell (c : CellNo) : m.cell c = (s.take j.cell).cell c := by rw [State.cell, hint]; rfl
  have hjobs := jobs_end (s := s) (m := m) (es := es) hw hwin hnd (fun e he => (hcell _).trans (htaken e he)) hmarks
  have ht : ({ m.completeEach es with pages := remarkPages s (m.completeEach es) } : State) = { m with
      window := (m.completeEach es).window, intake := (m.completeEach es).intake,
      pages := remarkPages s (m.completeEach es) } :=
    congrArg (fun u : State => { u with pages := remarkPages s (m.completeEach es) }) (completeEach_frame es m)
  rw [hint, ht] at hjobs
  have hexec : finish s (s.takeIf due act) = finish s (m.completeEach es) := by rw [takeIf_due hj hd, hact]
  exact ⟨_, _, _, hexec.trans ((finish_eq ..).trans (congrArg _ ht)), hjobs⟩

theorem take_cell_same (s : State) (c : CellNo) : (s.take c).cell c = .taken := cell_setCell_same s c .taken

theorem take_cell_other (s : State) {c d : CellNo} (h : d ≠ c) : (s.take c).cell d = s.cell d :=
  (cell_setCell s c d .taken).trans (if_neg h)

/-- A job of the hand-over beside the one that is taken, both TAKEN. -/
theorem heldBeside_ends {j : Job} {a : Option SwitchJob} (h : HeldBeside s j a) {f : SwitchJob → Ending}
    (hf : ∀ k, (f k).cell = k.cell) {e : Ending} (he : e.cell = j.cell) :
    ((a.toList.map f ++ [e]).map Ending.cell).Nodup ∧
      ∀ x, x ∈ a.toList.map f ++ [e] → (s.take j.cell).cell x.cell = .taken := by
  cases a with
  | none => simp [he]
  | some k =>
    obtain ⟨htaken, hne⟩ := h k rfl
    have hother : (s.take j.cell).cell k.cell = .taken := (take_cell_other s hne).trans htaken
    simp [he, hf, hne, hother]

theorem OnlyMarks.setPhase (h : OnlyMarks s t) (p : Phase) : OnlyMarks s (t.setPhase p) := by
  obtain ⟨pages, hq, hmarks⟩ := setPhase_eq t p
  exact h.trans (hmarks.congr (by rw [hq]))

theorem OnlyMarks.fallback (h : OnlyMarks s t) (reason : FailReason) : OnlyMarks s (t.fallback reason) := by
  unfold State.fallback State.judgeMenu
  have hwait := OnlyMarks.setPhase (s := s) (t := { t with
    ho.kind := .fallback, ho.target := some .menu, ho.lastFallback := reason, ho.cutFeed := false, ho.carry := 0,
    ho.active := none }) (h.congr (by rfl)) .waitTarget
  split
  · exact hwait.setPhase .glide
  · exact hwait

/-- The active job, if any, ends with its words 18 to 21 (R126). -/
theorem completeActive_switch (s : State) (r : Result) (n : Nat) : s.completeActive r n s.switchData =
    ({ s with ho.active := none }).completeEach (s.ho.active.toList.map fun a : SwitchJob =>
      ⟨a.cell, r, n, [a.target.number, s.ho.frames, s.ho.evicted.toNat, 0]⟩) := by
  have hb : BesideJobs fun t : State => { t with ho.active := none } := ⟨fun _ => rfl, fun _ => rfl, fun _ _ _ => rfl⟩
  refine Eq.trans ?_ (hb.completeEach ..)
  unfold State.completeActive
  cases ha : s.ho.active with
  | none =>
    have hsame : ({ s with ho.active := none } : State) = s := by rw [← ha]
    exact hsame.symm
  | some a => rfl

/-- The active job, if any, ends as its hand-over is aborted (R126). -/
theorem completeActive_ends (s : State) (r : Result) : s.completeActive r 0 s.switchData =
    ({ s with ho.active := none }).completeEach (s.activeEnds r) := completeActive_switch s r 0

theorem abortWaiting_ends (s : State) : s.abortWaiting =
    ({ s with ho.waiting := none }).completeEach (s.waitingEnds .aborted) := by
  have hb : BesideJobs fun t : State => { t with ho.waiting := none } := ⟨fun _ => rfl, fun _ => rfl, fun _ _ _ => rfl⟩
  refine Eq.trans ?_ (hb.completeEach ..)
  unfold State.abortWaiting State.waitingEnds
  cases ha : s.ho.waiting with
  | none =>
    have hsame : ({ s with ho.waiting := none } : State) = s := by rw [← ha]
    exact hsame.symm
  | some a => rfl

theorem withdrawTarget_nothing (h : NothingPending s) : s.withdrawTarget = s := by
  unfold State.withdrawTarget
  split
  case h_1 i ht => exact if_neg (by rw [h i ht]; exact Bool.false_ne_true)
  · rfl

theorem withdrawsTarget (h : t.slots = s.withdrawTarget.slots) : WithdrawsTarget s t := by
  intro i
  have hslot : t.slot i = s.withdrawTarget.slot i := congrArg (fun l : PerSlot SlotRec => l.get i) h
  rw [hslot, withdrawTarget_slot]
  simp only [and_comm, SlotRec.dropHandOver, PowerUp.pruned]
  split
  · cases (s.slot i).powerUp <;> simp
  · rfl

/-- The marks of a cancel whose outgoing is heard at another level than its own (R115). -/
theorem OnlyMarks.cancel_heard {src : Source} (h : OnlyMarks s t) (ho : t.ho.outgoing = some src)
    (hh : HeardAt t src) : OnlyMarks s t.cancel := by
  have hw := withdrawTarget_eq t
  unfold State.cancel
  rw [ho]
  generalize t.withdrawTarget = u at hw
  rw [hw]
  generalize u.slots = slots
  obtain ⟨p, hp, hm⟩ := setPhase_eq { t with
    slots := slots, raster.releaseOrder := none, ho.releaseTimer := none, ho.target := some src, ho.outgoing := none,
    ho.kind := .requested, ho.cancelled := true, router := t.router.driveSource src } .fadeIn
  dsimp only at hp ⊢
  rw [hp, reopenFeed_eq]
  refine OnlyMarks.congr (h.trans (OnlyMarks.congr hm ?_)) (congrArg State.pages
    (fadesIn_heard (src := src) ⟨hh.wanted, hh.crosspoint, hh.ramp, hh.level⟩ rfl))
  rfl

/-- The active job of a hand-over before release ends, and the hand-over is cancelled (R115, R117). -/
theorem aborted_cancels {src : Source} (ho : s.ho.outgoing = some src) (hh : HeardAt s src) (hn : NothingPending s) :
    ∃ pages, (s.completeActive .aborted 0 s.switchData).cancel = ({ s with
      pages := pages,
      ho := { s.ho with
        phase := .fadeIn, outgoing := none, target := some src, kind := .requested, active := none,
        releaseTimer := none, cancelled := true },
      raster := { s.raster with releaseOrder := none, cutArm := none },
      router := s.router.driveSource src,
      audio := { s.audio with target := levelFormula s.audio.master (s.audio.ratios.get src) s.audio.floor },
      credit := s.credit.givenBack src s.ho.outgoingFeed }).completeEach (s.activeEnds .aborted) ∧
      OnlyMarks s { s with pages := pages } := by
  let v : State := { s with ho.active := none }
  let t := v.completeEach (s.activeEnds .aborted)
  obtain ⟨w, n, ht⟩ : ∃ w n, t = { v with window := w, intake := n } := ⟨_, _, completeEach_frame ..⟩
  have hout : t.ho.outgoing = some src := by rw [ht]; exact ho
  have hheard : HeardAt t src := by
    rw [ht]
    exact ⟨hh.wanted, hh.crosspoint, hh.ramp, hh.level⟩
  have hnone : NothingPending t := by
    rw [ht]
    exact hn
  obtain ⟨pages, hc⟩ := cancel_heard hout hheard
  have hm := (OnlyMarks.refl t).cancel_heard hout hheard
  rw [hc] at hm
  refine ⟨pages, ?_, ?_⟩
  · rw [completeActive_ends]
    refine Eq.trans ?_ (completeEach_of (v := v) rfl rfl)
    rw [show v.completeEach (s.activeEnds .aborted) = t from rfl]
    refine hc.trans ?_
    rw [withdrawTarget_nothing hnone, ht]
  · exact OnlyMarks.trans (OnlyMarks.congr (OnlyMarks.refl s) (by rw [ht])) (OnlyMarks.congr hm (by rfl))

theorem usable_iff (s : State) (src : Source) :
    s.usable src = true ↔ Ready s src ∧ s.fitsMonitor src = true := by
  cases src with
  | menu => simp [State.usable, Ready, State.isStable]
  | slot i =>
    simp only [State.usable, Ready, State.isStable, Bool.and_eq_true, decide_eq_true_eq]
    constructor
    · rintro ⟨⟨hstable, hfits⟩, hrun⟩
      exact ⟨⟨hrun, hstable, hfits⟩, hfits⟩
    · rintro ⟨⟨hrun, hstable, hfits⟩, -⟩
      exact ⟨⟨hstable, hfits⟩, hrun⟩

/-- A usable outgoing is the target again, and ready (R108, R118). -/
theorem chooseAnew_usable {src : Source} (ho : s.ho.outgoing = some src) (hready : Ready s src)
    (hfits : s.fitsMonitor src = true) (hnone : s.ho.target = some src ∨ NothingPending s) :
    ∃ pages, s.chooseAnew = { s with
      pages := pages,
      ho := { s.ho with
        phase := .glide, kind := .requested, target := some src, cutFeed := s.ho.outgoingFeed, carry := 0 },
      raster := { s.raster with cutArm := none } } ∧ OnlyMarks s { s with pages := pages } := by
  have hkept : (if s.ho.target = some src then s else s.withdrawTarget) = s := by
    rcases hnone with h | h
    · exact if_pos h
    · rw [withdrawTarget_nothing h, ite_self]
  have hback : s.chooseAnew = ({ s with ho := { s.ho with
      target := some src, kind := .requested, cutFeed := s.ho.outgoingFeed, carry := 0 } }.setPhase .waitTarget).judge := by
    simp only [State.chooseAnew, ho, (usable_iff s src).2 ⟨hready, hfits⟩, if_true, State.backToOutgoing, hkept]
  obtain ⟨p₁, hq₁, hm₁⟩ := setPhase_eq ({ s with ho := { s.ho with
    target := some src, kind := .requested, cutFeed := s.ho.outgoingFeed, carry := 0 } }) .waitTarget
  obtain ⟨p₂, hq₂, hm₂⟩ := judge_reaches (t := { s with
      pages := p₁,
      ho := { s.ho with
        phase := .waitTarget, kind := .requested, target := some src, cutFeed := s.ho.outgoingFeed, carry := 0 },
      raster := { s.raster with cutArm := none } }) rfl rfl rfl
    (.inl ⟨hready, rfl⟩ : Reaches s src .glide)
  refine ⟨p₂, ?_, OnlyMarks.trans hm₁ hm₂⟩
  rw [hback, hq₁]
  exact hq₂

theorem withdrawTarget_slots (htarget : t.ho.target = s.ho.target) (hslots : t.slots = s.slots) :
    t.withdrawTarget.slots = s.withdrawTarget.slots := by
  unfold State.withdrawTarget
  rw [htarget]
  split
  case h_1 i _ =>
    have hslot : t.slot i = s.slot i := congrArg (fun l : PerSlot SlotRec => l.get i) hslots
    unfold State.withdrawHandOver
    rw [hslot]
    split
    · rw [modSlot_slots, modSlot_slots, hslot, hslots]
    · exact hslots
  · exact hslots

/-- Without a usable outgoing the hand-over falls back to source 0 (R118, R121). -/
theorem chooseAnew_unusable {l : PerSlot SlotRec} (hl : s.withdrawTarget.slots = l)
    (h : ∀ src, s.ho.outgoing = some src → ¬ (Ready s src ∧ s.fitsMonitor src = true)) :
    ∃ pages, s.chooseAnew = { s with
      pages := pages, slots := l,
      ho := { s.ho with
        phase := if (s.record .menu).stable then .glide else .waitTarget, kind := .fallback, target := some .menu,
        lastFallback := .none, cutFeed := false, carry := 0, active := none },
      raster := { s.raster with cutArm := none } } ∧ OnlyMarks s { s with pages := pages } := by
  have hfall : s.chooseAnew = s.withdrawTarget.fallback .none := by
    unfold State.chooseAnew
    split
    · next src ho => exact if_neg fun hu => h src ho ((usable_iff s src).1 hu)
    · rfl
  obtain ⟨pages, hq⟩ := fallback_marks s.withdrawTarget .none
  have hw := withdrawTarget_eq s
  have hm := OnlyMarks.fallback (t := s.withdrawTarget) (OnlyMarks.congr (OnlyMarks.refl s) (by rw [hw])) .none
  rw [hq] at hm
  refine ⟨pages, ?_, OnlyMarks.congr hm (by rfl)⟩
  rw [hfall, hq, hw, ← hl]
  rfl

/-- The active job of a hand-over between release and cut ends, and the target is chosen anew (R117, R118). -/
theorem aborted_anew (h : HandOver) (l : PerSlot SlotRec)
    (hc : ∀ w n, ∃ pages, ({ s with window := w, intake := n, ho := { s.ho with active := none } }).chooseAnew = { s with
      window := w, intake := n, pages := pages, slots := l, ho := h, raster := { s.raster with cutArm := none } } ∧
      OnlyMarks s { s with pages := pages }) :
    ∃ pages, (s.completeActive .aborted 0 s.switchData).chooseAnew = ({ s with
      pages := pages, slots := l, ho := h, raster := { s.raster with cutArm := none } }).completeEach
        (s.activeEnds .aborted) ∧ OnlyMarks s { s with pages := pages } := by
  let v : State := { s with ho.active := none }
  obtain ⟨pages, hq, hm⟩ := hc (v.completeEach (s.activeEnds .aborted)).window
    (v.completeEach (s.activeEnds .aborted)).intake
  refine ⟨pages, ?_, hm⟩
  rw [completeActive_ends, completeEach_frame]
  exact hq.trans (completeEach_of (v := v) (m := { s with
    pages := pages, slots := l, ho := h, raster := { s.raster with cutArm := none } }) rfl rfl)

/-- Settles O23, by the phase at the take. -/
theorem abortByPhase : Obligations.AbortByPhase := by
  intro s j hj
  have hd : Job.isKind 2 j = true := by simp [Job.isKind, hj.2.2]
  let u := s.take j.cell
  have hmarks : OnlyMarks s u := (OnlyMarks.refl s).congr rfl
  have hends (hheld : HeldBeside s j s.ho.active) (n : Nat) := heldBeside_ends hheld
    (f := fun a => (⟨a.cell, .aborted, 0, [a.target.number, s.ho.frames, s.ho.evicted.toNat, 0]⟩ : Ending))
    (fun _ => rfl) (e := ⟨j.cell, .ok, n, []⟩) rfl
  have hanew (hp : s.ho.phase.beforeCut = true) {m : State} {es : List Ending}
      (hc : (u.completeActive .aborted 0 u.switchData).chooseAnew = m.completeEach es) :
      abortJob j u = m.completeEach (es ++ [⟨j.cell, .ok, sourceField m.ho.target, []⟩]) := by
    have hact : abortJob j u = (m.completeEach es).complete j.cell .ok (sourceField (m.completeEach es).ho.target) [] := by
      have hu : u.ho.phase = s.ho.phase := rfl
      rw [← hc]
      cases hph : s.ho.phase <;> simp_all [abortJob, Phase.beforeCut]
    have hho : (m.completeEach es).ho = m.ho := by rw [completeEach_frame]
    rw [hact, hho, completeEach_append]
    rfl
  refine ⟨fun hq => refused_at_take hj.1 hj.2.1 hd ?_, fun hfade hheld => ?_, fun src hp hair hout hh hheld hnone => ?_,
    fun hp hheld => ⟨fun src hout hready hfits htarget => ?_, fun hunusable => ?_⟩⟩
  · have hu : (s.take j.cell).ho.phase = .quiet := hq
    simp only [abortJob, hu]
  · have hu : u.ho.phase = .fadeIn := hfade
    have hact : abortJob j u = ({ u with ho.waiting := none }).completeEach
        (s.waitingEnds .aborted ++ ([⟨j.cell, .tooLate, 0, []⟩] : List Ending)) := by
      simp only [abortJob, hu, abortWaiting_ends, completeEach_append]
      rfl
    obtain ⟨hnd, htaken⟩ := heldBeside_ends hheld (f := fun w => (⟨w.cell, .aborted, 0, []⟩ : Ending)) (fun _ => rfl)
      (e := ⟨j.cell, .tooLate, 0, []⟩) rfl
    obtain ⟨w, n, p, he, hjobs⟩ := jobs_at_take hj.1 hj.2.1 hd hact rfl rfl (hmarks.congr rfl) hnd htaken
    exact ⟨_, he, hjobs, rfl, rfl⟩
  · have hact : abortJob j u = ((u.completeActive .aborted 0 u.switchData).cancel).complete j.cell .ok
        (sourceField u.ho.outgoing) [] := by
      have hu : u.ho.phase = .fadeOut ∨ u.ho.phase = .release := hp
      rcases hu with hu | hu <;> simp only [abortJob, hu]
    obtain ⟨pages, hcancel, hm⟩ := aborted_cancels (s := u) (src := src) hout
      ⟨hh.wanted, hh.crosspoint, hh.ramp, hh.level⟩ hnone
    have hlast (t : State) := (completeEach_append t (s.activeEnds .aborted) [⟨j.cell, .ok, sourceField u.ho.outgoing, []⟩]).symm
    have hdone : abortJob j u = _ := hact.trans ((congrArg (fun t : State => t.complete j.cell .ok
      (sourceField u.ho.outgoing) []) hcancel).trans (hlast _))
    rw [show sourceField u.ho.outgoing = src.number from congrArg sourceField hout] at hdone
    obtain ⟨hnd, htaken⟩ := hends hheld src.number
    obtain ⟨w, n, p, he, hjobs⟩ := jobs_at_take hj.1 hj.2.1 hd hdone rfl rfl
      (OnlyMarks.congr (OnlyMarks.trans hmarks hm) (by rfl)) hnd htaken
    refine ⟨_, he, hjobs, rfl, ⟨rfl, rfl, ?_, ?_, ?_⟩, rfl⟩ <;> cases src <;> rfl
  · obtain ⟨pages, hq, hm⟩ := aborted_anew (s := u) { s.ho with
      phase := .glide, kind := .requested, target := some src, active := none, cutFeed := s.ho.outgoingFeed, carry := 0 }
      s.slots fun w n => chooseAnew_usable (s := { u with
      window := w, intake := n, ho := { u.ho with active := none } }) hout hready hfits htarget
    obtain ⟨hnd, htaken⟩ := hends hheld src.number
    obtain ⟨w, n, p, he, hjobs⟩ := jobs_at_take hj.1 hj.2.1 hd (hanew hp hq) rfl rfl
      (OnlyMarks.congr (OnlyMarks.trans hmarks hm) (by rfl)) hnd htaken
    exact ⟨_, he, hjobs, rfl, rfl, rfl⟩
  · obtain ⟨pages, hq, hm⟩ := aborted_anew (s := u) { s.ho with
        phase := if (s.record .menu).stable then .glide else .waitTarget, kind := .fallback, target := some .menu,
        lastFallback := .none, active := none, cutFeed := false, carry := 0 }
      s.withdrawTarget.slots fun w n => chooseAnew_unusable (s := { u with
        window := w, intake := n, ho := { u.ho with active := none } }) (withdrawTarget_slots rfl rfl) hunusable
    obtain ⟨hnd, htaken⟩ := hends hheld 0
    obtain ⟨w, n, p, he, hjobs⟩ := jobs_at_take hj.1 hj.2.1 hd (hanew hp hq) rfl rfl
      (OnlyMarks.congr (OnlyMarks.trans hmarks hm) (by rfl)) hnd htaken
    exact ⟨_, he, hjobs, rfl, rfl, withdrawsTarget rfl, rfl⟩

end
end Sys2Proof.Machine
end

section
namespace Sys2Proof.Machine

/-! ### A vertical pulse of a slot (R70, R71, R79, R87) -/

section
variable {s t : State} {i : Slot} {src : Source} {stamp : Stamp}

/-- The state once a slot's edge at `stamp` has been measured: its record `r`, and the counter run on to `m` (R65, R71). -/
def State.measured (s : State) (src : Source) (r : SyncRec) (m : Stamp) (pages : Pages) : State := { s with
  pages := pages, sync := { s.sync with mtick := m, records := s.sync.records.set src r } }

theorem measured_record (s : State) (src : Source) (r : SyncRec) (m : Stamp) (pages : Pages) :
    (s.measured src r m pages).record src = r := PerSource.get_set_same ..

theorem measured_other (s : State) (r : SyncRec) (m : Stamp) (pages : Pages) {other : Source} (h : other ≠ src) :
    (s.measured src r m pages).record other = s.record other := (PerSource.get_set ..).trans (if_neg h)

/-- A slot's vertical pulse, recognised, is measured, signalled and announced (R70, R79). -/
theorem vsyncAt_slot {width : Nat} {o : VsyncOutcome}
    (ho : (s.record (.slot i)).vsyncEdge (s.windowLow (.slot i)) (s.windowHigh (.slot i)) stamp = o)
    (hw : (s.record (.slot i)).separation (s.windowLow (.slot i)) < width * 64) :
    ∃ m pages, s.vsyncAt (.slot i) .horizontal ⟨stamp, width⟩ =
        (if o.announced then ((s.measured (.slot i) o.record m pages).signalIf (.slot i) o.event).announce (.slot i) stamp
          else (s.measured (.slot i) o.record m pages).signalIf (.slot i) o.event) ∧
      OnlyMarks s { s with pages := pages } := by
  have htaken : s.vsyncAt (.slot i) .horizontal ⟨stamp, width⟩ = s.vsyncTaken (.slot i) .horizontal stamp := by
    simp only [State.vsyncAt, SyncRec.isVertical, hw, decide_true, Bool.and_true, State.passedOver_slot,
      State.takeCoincident, Bool.false_eq_true, if_false]
    exact if_pos rfl
  rw [htaken]
  simp only [State.vsyncTaken, ho, State.noteVertical_slot, State.recognise]
  generalize (s.record (.slot i)).recognisedAt (s.windowLow (.slot i)) .horizontal stamp = m
  obtain ⟨m', hm⟩ : ∃ m', s.advanceTo m = { s with sync := { s.sync with mtick := m' } } := by
    rcases advanceTo_cases s m with h | h
    · exact ⟨_, h⟩
    · exact ⟨s.sync.mtick, h⟩
  obtain ⟨pages, hrec, hmarks⟩ : ∃ pages, (s.advanceTo m).vsyncRecord (.slot i) o =
      s.measured (.slot i) o.record m' pages ∧ OnlyMarks s { s with pages := pages } := by
    rw [hm, State.vsyncRecord]
    extract_lets u
    split
    · exact ⟨_, rfl, ((OnlyMarks.refl s).mark (.source (.slot i))).congr (by rfl)⟩
    · exact ⟨_, rfl, (OnlyMarks.refl s).congr (by rfl)⟩
  exact ⟨m', pages, by rw [hrec], hmarks⟩

/-- The announcement of an edge sets the pass timing, and makes neither a release nor a cut (R87, R88, R96). -/
theorem announce_passes (hrelease : s.raster.mode = .pass → s.raster.releaseOrder ≠ some src)
    (hcut : s.raster.mode = .hold → s.raster.cutArm = none) :
    s.announce src stamp = { s with raster := s.raster.notePass src (s.record src) } := by
  have hnote : (s.raster.notePass src (s.record src)).mode = s.raster.mode ∧
      (s.raster.notePass src (s.record src)).releaseOrder = s.raster.releaseOrder ∧
      (s.raster.notePass src (s.record src)).cutArm = s.raster.cutArm := by
    unfold Raster.notePass
    split <;> exact ⟨rfl, rfl, rfl⟩
  obtain ⟨hmode, horder, harm⟩ := hnote
  have hcuts (rec : SyncRec) : (s.raster.notePass src (s.record src)).cutsAt src rec stamp = none := by
    unfold Raster.cutsAt
    rw [hmode, harm]
    cases hm : s.raster.mode with
    | pass => rfl
    | hold => rw [hcut hm]
  simp only [State.announce, hmode, horder, hcuts]
  exact if_neg fun h => hrelease h.1 h.2

/-- The announcement of an edge that ends the outgoing's hold on the picture (R88). -/
theorem announce_releases (hmode : s.raster.mode = .pass) (horder : s.raster.releaseOrder = some src) :
    s.announce src stamp =
      ({ s with raster := (s.raster.notePass src (s.record src)).startHold stamp }).releaseHandled := by
  have hnote : (s.raster.notePass src (s.record src)).mode = .pass ∧
      (s.raster.notePass src (s.record src)).releaseOrder = some src := by
    unfold Raster.notePass
    split <;> exact ⟨hmode, horder⟩
  exact if_pos hnote

theorem notePass_hold (r : Raster) (rec : SyncRec) (h : r.mode = .hold) : r.notePass src rec = r := by
  unfold Raster.notePass
  exact if_neg fun hc => by rw [h] at hc; exact absurd hc.1 (by decide)

/-- The source selected sets the pass timing from a stable record (R87). -/
theorem notePass_pass (r : Raster) (rec : SyncRec) (h : r.mode = .pass) (hx : r.crosspoint = some src) :
    r.notePass src rec = { r with pass := if rec.stable then some ⟨rec.lastP, rec.lastL⟩ else r.pass } := by
  unfold Raster.notePass
  by_cases hs : rec.stable = true
  · rw [if_pos ⟨h, hx, hs⟩, if_pos hs]
    rfl
  · rw [if_neg fun hc => hs hc.2.2, if_neg hs]

/-! ### The release of the outgoing (R88, R89, R106) -/

theorem startHold_timing (r : Raster) (stamp : Stamp) (tm : Timing) (h : r.pass = some tm) :
    (r.startHold stamp).l = tm.l ∧
      (r.startHold stamp).p = (if tm.p < r.pMin then r.pMin else if r.pMax < tm.p then r.pMax else tm.p) := by
  simp only [Raster.startHold, Raster.startTiming, h]
  exact ⟨trivial, rfl⟩

theorem releaseSlot_slots (s : State) (i : Slot) : s.releaseSlot i = { s with slots := (s.releaseSlot i).slots } := by
  unfold State.releaseSlot
  split <;> rfl

theorem releaseSlot_slot (s : State) (i k : Slot) : (s.releaseSlot i).slot k =
    if k = i ∧ (s.slot k).state = .onAir then { s.slot k with state := .running } else s.slot k := by
  unfold State.releaseSlot
  split
  case isTrue h =>
    rw [modSlot_slot]
    by_cases hk : k = i
    · rw [if_pos hk, if_pos ⟨hk, hk ▸ h⟩, hk]
    · rw [if_neg hk, if_neg fun hc => hk hc.1]
  case isFalse h => exact (if_neg fun hc : k = i ∧ _ => h (hc.1 ▸ hc.2)).symm

/-- With the level at 0 the audio crosspoint leaves the source at once (R176, R181). -/
theorem setWanted_none (h : s.audio.current = 0) : s.setWanted none = { s with
    audio := { s.audio with wanted := none, crosspoint := none, target := 0 } } := by
  have hlevel : (if s.audio.ramp = 0 then 0 else s.audio.current) = s.audio.current := by rw [h, ite_self]
  have hretarget (x : Option Source) :
      ({ s with audio := { s.audio with wanted := none, crosspoint := x } } : State).retarget =
        { s with audio := { s.audio with wanted := none, crosspoint := x, target := 0 } } :=
    congrArg (fun n => ({ s with audio := { s.audio with
      wanted := none, crosspoint := x, target := 0, current := n } } : State)) hlevel
  have hset : s.setWanted none =
      ({ s with audio := { s.audio with wanted := none, target := 0 } } : State).crossover :=
    congrArg State.crossover (hretarget s.audio.crosspoint)
  rw [hset]
  by_cases hx : s.audio.crosspoint = none
  · exact (if_neg fun hc => hc.1 hx).trans (by rw [← hx])
  · exact (if_pos ⟨hx, h⟩).trans (congrArg (fun n => ({ s with audio := { s.audio with
      wanted := none, crosspoint := none, target := 0, current := n } } : State)) hlevel)

/-- The release of an outgoing slot with the level at 0, onto a source 0 that is not stable (R106, R108). -/
theorem releaseHandled_menu (hout : s.ho.outgoing = some (.slot i)) (htarget : s.ho.target = some .menu)
    (hmenu : (s.record .menu).stable = false) (hlevel : s.audio.current = 0) : ∃ pages, s.releaseHandled = { s with
      pages := pages, slots := (s.releaseSlot i).slots,
      ho := { s.ho with phase := .waitTarget, onAir := none, releaseTimer := none },
      raster := { s.raster with cutArm := none },
      audio := { s.audio with wanted := none, crosspoint := none, target := 0 },
      router := { s.router with driven := none, entries := [], activePins := 0, chordFreeze := false } } ∧
      OnlyMarks s { s with pages := pages } := by
  let v : State := { s with
    slots := (s.releaseSlot i).slots, ho := { s.ho with onAir := none, releaseTimer := none },
    router := { s.router with driven := none, entries := [], activePins := 0, chordFreeze := false } }
  have hleft : ({ s with ho.onAir := none, ho.releaseTimer := none, router := s.router.driveNone } : State).releaseOutgoing =
      v := by
    let u : State := { s with ho.onAir := none, ho.releaseTimer := none, router := s.router.driveNone }
    have hslots : (u.releaseSlot i).slots = (s.releaseSlot i).slots := by
      have hslot : u.slot i = s.slot i := rfl
      unfold State.releaseSlot
      rw [hslot]
      split <;> rfl
    have hrelease : u.releaseOutgoing = u.releaseSlot i := by simp only [State.releaseOutgoing, u, hout]
    refine hrelease.trans ((releaseSlot_slots u i).trans ?_)
    rw [hslots]
    rfl
  obtain ⟨pages, hq, hm⟩ := setPhase_eq v .waitTarget
  refine ⟨pages, ?_, OnlyMarks.congr hm (by rfl)⟩
  have hwanted := setWanted_none (s := v.setPhase .waitTarget) (by rw [hq]; exact hlevel)
  have hjudge (u : State) (ht : u.ho.target = some .menu) (hu : (u.record .menu).stable = false) : u.judge = u := by
    simp only [State.judge, ht, State.judgeMenu, State.isStable, hu, Bool.false_eq_true, if_false, ite_self]
  have hhandled : s.releaseHandled = ((v.setPhase .waitTarget).setWanted none).judge :=
    congrArg (fun u : State => ((u.setPhase .waitTarget).setWanted none).judge) hleft
  rw [hhandled, hwanted, hq]
  exact hjudge _ htarget hmenu

/-- Settles O54: the timer starts HOLD at the present instant, the edge at its stamp, and both release alike. -/
theorem releaseTimerReleases : Obligations.ReleaseTimerReleases := by
  refine ⟨?_, ?_⟩
  · intro s i hphase hair hout htarget hmenu hmode hlevel
    let v : State := { s with raster := s.raster.startHold s.sync.mtick }
    obtain ⟨pages, hq, hm⟩ := releaseHandled_menu (s := v) hout htarget hmenu hlevel
    have hhold : s.raster.immediateHold s.sync.mtick = s.raster.startHold s.sync.mtick := by
      simp only [Raster.immediateHold, hmode]
    have htimeout : s.releaseTimeout = v.releaseHandled := (if_pos hphase).trans
      (congrArg (fun r : Raster => ({ s with raster := r } : State).releaseHandled) hhold)
    exact ⟨_, (congrArg (finish s) (htimeout.trans hq)).trans (finish_eq ..), rfl, rfl,
      fun tm h => startHold_timing s.raster s.sync.mtick tm h, releaseSlot_slot v i, rfl, rfl, rfl, rfl,
      OnlyMarks.finish (OnlyMarks.congr hm (by rfl))⟩
  · intro s i stamp width src o pass hw hann hevent hmode hx
    obtain ⟨m, pages, hv, hm⟩ := vsyncAt_slot (i := i) (stamp := stamp) (o := o) rfl hw
    let u := s.measured src o.record m pages
    have hrec : u.record src = o.record := measured_record ..
    have hnote : u.raster.notePass src (u.record src) = { s.raster with pass := pass } := by
      rw [hrec]
      exact notePass_pass s.raster o.record hmode hx
    have hannounce : s.vsyncAt src .horizontal ⟨stamp, width⟩ = u.announce src stamp := by
      rw [hv, hann, hevent]
      rfl
    refine ⟨fun horder => ?_, fun horder hphase hair hout htarget hmenu hlevel => ?_⟩
    · have hdone : s.vsyncAt src .horizontal ⟨stamp, width⟩ = { u with raster := { s.raster with pass := pass } } := by
        rw [hannounce, announce_passes (s := u) (fun _ => horder) fun h => absurd (hmode.symm.trans h) (by decide), hnote]
      exact ⟨_, (congrArg (finish s) hdone).trans (finish_eq ..), hrec, fun other h => measured_other s _ m pages h, rfl,
        rfl, OnlyMarks.finish (OnlyMarks.congr hm (by rfl))⟩
    · let v : State := { u with raster := ({ s.raster with pass := pass } : Raster).startHold stamp }
      have hmenu' : (v.record .menu).stable = false := by
        rw [show v.record .menu = s.record .menu from measured_other s _ m pages (by simp [src])]
        exact hmenu
      obtain ⟨pages', hq, hm'⟩ := releaseHandled_menu (s := v) hout htarget hmenu' hlevel
      have hdone : s.vsyncAt src .horizontal ⟨stamp, width⟩ = v.releaseHandled := by
        rw [hannounce, announce_releases (s := u) hmode horder, hnote]
      exact ⟨_, (congrArg (finish s) (hdone.trans hq)).trans (finish_eq ..), hrec,
        fun other h => measured_other s _ m pages h, rfl, rfl,
        fun tm h => startHold_timing ({ s.raster with pass := pass } : Raster) stamp tm h, releaseSlot_slot v i, rfl, rfl,
        rfl, OnlyMarks.finish (OnlyMarks.trans hm (OnlyMarks.congr hm' (by rfl)))⟩

end
end Sys2Proof.Machine
end

section
namespace Sys2Proof.Machine

/-! ### The cut (R33, R96, R112, R165, R170, R176, R178) -/

section
variable {s : State} {i : Slot} {d : Descriptor} {stamp : Stamp}

/-- The units that the carry of a hand-over moves at its cut, clamped three ways (R170). -/
def State.carryMoved (s : State) (i : Slot) (d : Descriptor) : Nat :=
  min (if s.ho.active.isSome then min s.ho.carry d.pulseCap else 0)
    (min s.credit.bank (d.pulseCap - s.credit.pending.get i))

theorem carryUnits_eq (hcopy : s.copy i = some d) : s.carryUnits i s.ho.handedCarry = s.carryMoved i d := by
  have hcap : s.pulseCap i = d.pulseCap := by simp only [State.pulseCap, hcopy]
  simp only [State.carryUnits, State.movable, HandOver.handedCarry, State.carryMoved, hcap]
  split <;> simp

/-- The credit after the cut (R165, R170). -/
def State.cutCredited (s : State) (i : Slot) (n : Nat) : Credit := { s.credit with
  bank := s.credit.bank - n, pending := s.credit.pending.set i (s.credit.pending.get i + n),
  feed := if s.ho.cutFeed then s.credit.feed.set i true else s.credit.feed }

theorem cutCredit_slot (hcopy : s.copy i = some d) : s.cutCredit (.slot i) = { s with
    credit := s.cutCredited i (s.carryMoved i d), ho := { s.ho with carried := s.carryMoved i d } } := by
  simp only [State.cutCredit, carryUnits_eq hcopy, State.cutCredited, Credit.moveToPending, Credit.setFeed]
  cases s.ho.cutFeed <;> rfl

theorem cutSlot_running (h : (s.slot i).state = .running) : s.cutSlot i = { s with
    slots := s.slots.set i { s.slot i with state := .onAir }, warm := i :: s.warm.erase i } := if_pos h

/-- The source put on air with the level at 0 and the crosspoint left takes the crosspoint, and its level is the target
(R176, R178). -/
theorem setWanted_heard {src : Source} (hphase : s.ho.phase = .fadeIn) (hx : s.audio.crosspoint = none)
    (hlevel : s.audio.current = 0) (hramp : 0 < s.audio.ramp) : s.setWanted (some src) = { s with
      audio := { s.audio with
        wanted := some src, crosspoint := some src,
        target := levelFormula s.audio.master (s.audio.ratios.get src) s.audio.floor } } := by
  let v : State := { s with audio := { s.audio with wanted := some src, target := 0 } }
  let w : State := { s with audio := { s.audio with wanted := some src, crosspoint := some src, target := 0 } }
  have hquiet : ({ s with audio.wanted := some src } : State).retarget = v := by
    have ht : ({ s with audio.wanted := some src } : State).audioTarget = 0 := by
      simp [State.audioTarget, hphase, hx]
    rw [State.retarget, ht]
    simp only [v, if_neg hramp.ne']
  have hcross : v.crossover = w.retarget := if_pos ⟨by simp [v, hx], hlevel⟩
  have hheard : w.audioTarget = levelFormula s.audio.master (s.audio.ratios.get src) s.audio.floor := by
    simp [State.audioTarget, w, hphase]
  have hset : s.setWanted (some src) = w.retarget := (congrArg State.crossover hquiet).trans hcross
  rw [hset, State.retarget, hheard]
  simp only [w, if_neg hramp.ne']

/-- The controller at the cut to a RUNNING slot that is then heard (R112). -/
theorem cutHandled_slot {rough : Bool} (hrun : (s.slot i).state = .running) (hcopy : s.copy i = some d)
    (hlevel : s.audio.current = 0) (hx : s.audio.crosspoint = none) (hramp : 0 < s.audio.ramp)
    (hheard : 0 < levelFormula s.audio.master (s.audio.ratios.get (.slot i)) s.audio.floor) :
    ∃ pages, s.cutHandled (.slot i) rough = { s with
      pages := pages, slots := s.slots.set i { s.slot i with state := .onAir }, warm := i :: s.warm.erase i,
      ho := { s.ho with
        phase := .fadeIn, onAir := some (.slot i), rough := rough, carried := s.carryMoved i d, cancelled := false },
      raster := { s.raster with cutArm := none }, router := s.router.driveSlot i,
      credit := s.cutCredited i (s.carryMoved i d),
      audio := { s.audio with
        wanted := some (.slot i), crosspoint := some (.slot i),
        target := levelFormula s.audio.master (s.audio.ratios.get (.slot i)) s.audio.floor } } ∧
      OnlyMarks s { s with pages := pages } := by
  let u : State := { s with ho := { s.ho with onAir := some (.slot i), rough := rough, cancelled := false } }
  let v : State := { u with slots := s.slots.set i { s.slot i with state := .onAir }, warm := i :: s.warm.erase i }
  let w : State := { v with
    credit := s.cutCredited i (s.carryMoved i d), ho := { u.ho with carried := s.carryMoved i d },
    router := s.router.driveSlot i }
  have hcut : (u.cutSource (.slot i)).cutCredit (.slot i) = { v with
      credit := s.cutCredited i (s.carryMoved i d), ho := { u.ho with carried := s.carryMoved i d } } :=
    (congrArg (State.cutCredit · (.slot i)) (cutSlot_running (s := u) hrun)).trans (cutCredit_slot (s := v) hcopy)
  have hsteps : s.cutHandled (.slot i) rough = ((w.setPhase .fadeIn).setWanted (some (.slot i))).levelReached :=
    congrArg (fun t : State => ((({ t with router := t.router.driveSource (.slot i) }).setPhase .fadeIn).setWanted
      (some (.slot i))).levelReached) hcut
  obtain ⟨pages, hq, hm⟩ := setPhase_eq w .fadeIn
  refine ⟨pages, ?_, OnlyMarks.congr hm (by rfl)⟩
  have hwanted := setWanted_heard (s := w.setPhase .fadeIn) (src := .slot i) (by rw [hq]) (by rw [hq]; exact hx)
    (by rw [hq]; exact hlevel) (by rw [hq]; exact hramp)
  rw [hsteps, hwanted, hq]
  refine levelReached_short fun h => ?_
  exact absurd (hlevel.symm.trans h) hheard.ne

/-- The announcement of an edge that makes the cut (R96). -/
theorem announce_cuts {src : Source} {arm : CutArm} (hmode : s.raster.mode = .hold)
    (hcuts : s.raster.cutsAt src (s.record src) stamp = some arm) : s.announce src stamp = s.cutTo src arm.rough := by
  have hnote := notePass_hold (src := src) s.raster (s.record src) hmode
  have hcuts' : s.raster.cutsAt src (({ s with raster := s.raster } : State).record src) stamp = some arm := hcuts
  simp only [State.announce, hnote, hmode, reduceCtorEq, false_and, if_false, hcuts']

/-- Settles O52: the edge is measured, its announcement makes the cut, and the controller puts the slot on air. -/
theorem cutPutsOnAir : Obligations.CutPutsOnAir := by
  intro s i d arm stamp width src o hphase hair htarget hmode harm hto hstamp hafter hw hann hevent hstable hrun hcopy
    hlevel hx hramp hheard carry moved
  obtain ⟨m, pages, hv, hm⟩ := vsyncAt_slot (i := i) (stamp := stamp) (o := o) rfl hw
  let u := s.measured src o.record m pages
  have hrec : u.record src = o.record := measured_record ..
  have hannounce : s.vsyncAt src .horizontal ⟨stamp, width⟩ = u.announce src stamp := by
    rw [hv, hann, hevent]
    rfl
  have hcuts : s.raster.cutsAt src o.record stamp = some arm := by
    have harrived : arrivedAfter arm.armedAt stamp = true := (if_neg hstamp).trans (decide_eq_true hafter)
    simp only [Raster.cutsAt, hmode, harm]
    exact if_pos ⟨hto, hstable, harrived⟩
  let v : State := { u with raster := s.raster.cut src o.record }
  have hcut : u.announce src stamp = v.cutHandled src arm.rough := by
    rw [announce_cuts (s := u) hmode (by rw [hrec]; exact hcuts), State.cutTo, hrec]
    rfl
  obtain ⟨pages', hq, hm'⟩ := cutHandled_slot (s := v) (i := i) (d := d) (rough := arm.rough) hrun hcopy hlevel hx hramp
    hheard
  exact ⟨_, (congrArg (finish s) (hannounce.trans (hcut.trans hq))).trans (finish_eq ..), rfl, rfl, rfl, rfl, rfl, rfl,
    rfl, hrec, rfl, rfl, OnlyMarks.finish (OnlyMarks.trans hm (OnlyMarks.congr hm' (by rfl)))⟩

end
end Sys2Proof.Machine
end

section
namespace Sys2Proof.Machine

/-! ### A vertical pulse at a record (R70 to R77) -/

section
variable {r : SyncRec} {lo hi c n : Nat} {stamp : Stamp}

theorem merges_within {e : Stamp} (he : r.lastEdge = some e) (h : (stamp - e).toNat * 2 < r.separation lo) :
    r.merges lo stamp = true := by
  simp only [SyncRec.merges, he]
  exact decide_eq_true h

theorem merges_apart (h : ∀ e, r.lastEdge = some e → r.separation lo ≤ (stamp - e).toNat * 2) :
    r.merges lo stamp = false := by
  unfold SyncRec.merges
  split
  · rfl
  · next e he => exact decide_eq_false (Nat.not_lt.2 (h e he))

/-- An edge passed over leaves the record as it is (R70). -/
theorem vsyncEdge_merged (h : r.merges lo stamp = true) : r.vsyncEdge lo hi stamp = ⟨r, none, false, false⟩ := by
  unfold SyncRec.vsyncEdge
  split <;> simp only [h, if_true]

theorem linesAfter_none (h : ∀ e, r.lastHsync = some e → e = stamp ∨ 0x80000000 ≤ (e - stamp).toNat) :
    r.linesAfter stamp = 0 := by
  unfold SyncRec.linesAfter
  split
  · next e he =>
    refine if_neg fun hc => ?_
    obtain ⟨hne, hr⟩ := Bool.and_eq_true_iff.1 hc
    have hlt : (e - stamp).toNat < 0x80000000 := of_decide_eq_true hr
    rcases h e he with heq | hle
    · exact of_decide_eq_true hne heq
    · omega
  · rfl

/-- A SILENT record with an hsync edge shortly before returns to LIVE with a frame open (R77). -/
theorem vsyncEdge_resumes {e : Stamp} (hcond : r.condition = .silent) (hm : r.merges lo stamp = false)
    (hl : r.linesAfter stamp = 0) (he : r.lastHsync = some e) (h : (stamp - e).toNat ≤ 96000) :
    r.vsyncEdge lo hi stamp = ⟨{ r with
      condition := .live, frameOpen := true, lines := 0, lastVsync := stamp, lastEdge := some stamp },
      none, false, true⟩ := by
  have hr : r.resumes stamp = true := by
    simp only [SyncRec.resumes, he]
    exact decide_eq_true h
  simp only [SyncRec.vsyncEdge, hcond, hm, Bool.false_eq_true, if_false, hr, if_true, SyncRec.openFrame, hl]

/-- The record of a frame that ends at `t`, before it is judged (R71). -/
def SyncRec.ended (r : SyncRec) (t : Stamp) : SyncRec := { r with
  frameTime := t - r.lastVsync, frameLines := r.lines, lines := 0, lastVsync := t, lastEdge := some t }

/-- The judgement reads no last edge (R72 to R75). -/
theorem judge_lastEdge (r : SyncRec) (x : Option Stamp) :
    ({ r with lastEdge := x } : SyncRec).judge lo hi = ({ (r.judge lo hi).1 with lastEdge := x }, (r.judge lo hi).2) := by
  unfold SyncRec.judge
  dsimp only
  split
  · split
    · rfl
    · split <;> rfl
  · rfl

/-- The frame of a LIVE record ends and is judged (R71). -/
theorem vsyncEdge_judged {j : SyncRec × Judged} (hcond : r.condition = .live) (hm : r.merges lo stamp = false)
    (hopen : r.frameOpen = true) (hl : r.linesAfter stamp = 0) (hj : (r.ended stamp).judge lo hi = j) :
    r.vsyncEdge lo hi stamp = ⟨j.1, stabilityEvent r.stable j.1.stable, decide (j.2 = .agreed), true⟩ := by
  have hended : r.ended stamp = { r.endFrame stamp with lastEdge := some stamp } := by
    simp only [SyncRec.ended, SyncRec.endFrame, hl, Nat.sub_zero]
  rw [hended, judge_lastEdge] at hj
  simp only [SyncRec.vsyncEdge, hcond, hm, Bool.false_eq_true, if_false, hopen, if_true, ← hj]

theorem validCandidate_iff : validCandidate lo hi c n = true ↔ 200 ≤ n ∧ n ≤ 700 ∧ lo ≤ c ∧ c ≤ hi := by
  simp [validCandidate, and_assoc]

theorem foldl_min_le (l : List Nat) (n : Nat) : l.foldl min n ≤ n := by
  induction l generalizing n with
  | nil => exact le_refl n
  | cons m l ih => exact (ih (min n m)).trans (min_le_left n m)

/-- The smallest line count seen is no more than the one just counted (R74). -/
theorem leastSeen_le (n : Nat) (seen : List Nat) : leastSeen n seen ≤ n := foldl_min_le seen n

/-- The frame as an agreeing candidate (R74). -/
theorem judge_agrees {ref : Reference} (hn : n = r.frameLines) (hc : c = candidate r.frameTime.toNat n)
    (hv : validCandidate lo hi c n = true) (href : r.reference = some ref) (ha : ref.agrees c n = true) :
    r.judge lo hi = (r.continueRun c n, .agreed) := by
  subst hn hc
  simp only [SyncRec.judge, hv, if_true, href, ha]

/-- A valid candidate that does not continue the run begins its own (R73). -/
theorem judge_starts (hn : n = r.frameLines) (hc : c = candidate r.frameTime.toNat n)
    (hv : validCandidate lo hi c n = true) (ha : ∀ ref, r.reference = some ref → ref.agrees c n = false) :
    r.judge lo hi = (r.startRun c n, .newRun) := by
  subst hn hc
  simp only [SyncRec.judge, hv, if_true]
  split
  · rfl
  · next ref href => rw [ha ref href]; rfl

/-- An invalid candidate ends the run (R73). -/
theorem judge_ends (hn : n = r.frameLines) (hc : c = candidate r.frameTime.toNat n)
    (hv : ¬ validCandidate lo hi c n = true) : r.judge lo hi = (r.endRun, .newRun) := by
  subst hn hc
  simp only [SyncRec.judge, if_neg hv]

/-- The eighth agreeing frame makes the record stable (R75). -/
theorem continueRun_eighth (hcount : r.stableCount = 7) : ∃ l seen b, l ≤ n ∧ r.continueRun c n = { r with
    stable := true, stableCount := 8, p := c, lastP := c, l := l, lastL := l, linesSeen := seen, interlaced := b } := by
  let seen := addSeen n r.linesSeen
  refine ⟨leastSeen n seen, seen, decide (leastSeen n seen ∈ seen) && decide (leastSeen n seen + 1 ∈ seen),
    leastSeen_le .., ?_⟩
  simp [SyncRec.continueRun, hcount, seen]

end

/-! ### What an edge's event does (R31, R79, R108, R109, R129, R130) -/

section
variable {s : State} {i : Slot} {src : Source} {stamp : Stamp}

/-- In HOLD with no cut arm an announcement does nothing (R87, R88, R96). -/
theorem announce_hold (hmode : s.raster.mode = .hold) (harm : s.raster.cutArm = none) : s.announce src stamp = s := by
  rw [announce_passes (fun h => absurd (hmode.symm.trans h) (by decide)) (fun _ => harm), notePass_hold _ _ hmode]

/-- What STABLE makes of a slot's record that it lets run (R31, R130). -/
def SettlesTo (s : State) (i : Slot) (after : SlotRec) : Prop :=
  (s.slot i).state = .starting ∧ (s.slot i).jobCell = none ∧
      after = { s.slot i with state := .running, start := none, powerUp := none } ∨
    (s.slot i).state = .lost ∧ s.ho.onAir ≠ some (.slot i) ∧ after = { s.slot i with state := .running, grace := none }

theorem slotStable_settles {after : SlotRec} (h : SettlesTo s i after) :
    s.slotStable i = { s with slots := s.slots.set i after } := by
  rcases h with ⟨hs, hjob, rfl⟩ | ⟨hs, hair, rfl⟩
  · have hrun : s.slotStable i =
        (s.modSlot i fun r => { r with state := .running, start := none, powerUp := none }).answerJob i
          (s.slot i).powerUp .ok 0 (s.slot i).mask := by
      simp only [State.slotStable, hs]
    rw [hrun, answerJob_completeEach, hjob]
    rfl
  · have hback : s.slotStable i = s.modSlot i fun r => { r with state := s.returnState i, grace := none } := by
      simp only [State.slotStable, hs]
    rw [hback, State.returnState, if_neg hair]
    rfl

theorem slotStable_onAir (hs : (s.slot i).state = .lost) (hair : s.ho.onAir = some (.slot i)) :
    s.slotStable i = { s with slots := s.slots.set i { s.slot i with state := .onAir, grace := none } } := by
  have hback : s.slotStable i = s.modSlot i fun r => { r with state := s.returnState i, grace := none } := by
    simp only [State.slotStable, hs]
  rw [hback, State.returnState, if_pos hair]
  rfl

theorem slotStable_running (hs : (s.slot i).state = .running) : s.slotStable i = s := by
  simp only [State.slotStable, hs]

/-- STABLE of a slot that is no target (R79). -/
theorem signal_stable (htarget : s.ho.target ≠ some (.slot i)) :
    s.signal (.slot i) .stable = (s.markSource (.slot i)).slotStable i := by
  have hho : ((s.markSource (.slot i)).slotStable i).ho = s.ho := by
    unfold State.slotStable
    split
    · rw [answerJob_completeEach, completeEach_frame]; rfl
    · rfl
    · rfl
  exact if_neg fun h => htarget ((congrArg HandOver.target hho).symm.trans h)

/-- STABLE of the target of a hand-over has its readiness judged (R108). -/
theorem signal_target (htarget : s.ho.target = some (.slot i)) {l : PerSlot SlotRec}
    (hl : (s.markSource (.slot i)).slotStable i = { s.markSource (.slot i) with slots := l }) :
    s.signal (.slot i) .stable = ({ s.markSource (.slot i) with slots := l }).judge := by
  have hsignal : s.signal (.slot i) .stable =
      ({ s.markSource (.slot i) with slots := l }).controllerEvent (.slot i) .stable :=
    congrArg (fun t : State => t.controllerEvent (.slot i) .stable) hl
  exact hsignal.trans (if_pos htarget)

/-- The slots as slot `i` loses its stable sync: LOST from RUNNING, with its grace started (R129). -/
def State.lostSlots (s : State) (i : Slot) : PerSlot SlotRec :=
  if (s.slot i).state = .running then
    s.slots.set i { s.slot i with state := .lost, grace := some (s.figure i Descriptor.grace * 10) }
  else s.slots

theorem enterLost_aside (hs : (s.slot i).state ≠ .onAir) : s.enterLost i = { s with slots := s.lostSlots i } := by
  unfold State.enterLost State.lostSlots
  split
  case h_1 h => rw [if_pos h]; rfl
  case h_2 h => exact absurd h hs
  case h_3 h _ => rw [if_neg h]

/-- UNSTABLE of a slot aside (R79, R129). -/
theorem signal_unstable (haside : Aside s i) (hs : (s.slot i).state ≠ .onAir) :
    s.signal (.slot i) .unstable = { s.markSource (.slot i) with slots := s.lostSlots i } := by
  have hsignal : s.signal (.slot i) .unstable =
      ((s.markSource (.slot i)).enterLost i).controllerLoses (.slot i) false := rfl
  have hlost : (s.markSource (.slot i)).enterLost i = { s.markSource (.slot i) with slots := s.lostSlots i } :=
    enterLost_aside hs
  have hphase : (s.markSource (.slot i)).ho.phase = .quiet := haside.1
  rw [hsignal, hlost]
  simp only [State.controllerLoses, hphase]
  exact if_neg haside.2

/-- A target whose last line period the monitor refuses (R109): its job ends, and the hand-over falls back. -/
theorem judge_refuses (hphase : s.ho.phase = .waitTarget) (htarget : s.ho.target = some (.slot i))
    (hstable : (s.record (.slot i)).stable = true) (hrun : (s.slot i).state = .running)
    (hfits : s.fitsMonitor (.slot i) = false) : ∃ pages, s.judge = ({ s with
      pages := pages,
      ho := { s.ho with
        phase := if (s.record .menu).stable then .glide else .waitTarget, kind := .fallback,
        target := some .menu, lastFallback := .outOfRange, active := none, cutFeed := false, carry := 0 },
      raster := { s.raster with cutArm := none } }).completeEach (s.ho.active.toList.map fun a : SwitchJob =>
        ⟨a.cell, .targetFailed, 5, [a.target.number, s.ho.frames, s.ho.evicted.toNat, 0]⟩) ∧
      OnlyMarks s { s with pages := pages } := by
  let v : State := { s with ho.active := none }
  let es : List Ending := s.ho.active.toList.map fun a =>
    ⟨a.cell, .targetFailed, 5, [a.target.number, s.ho.frames, s.ho.evicted.toNat, 0]⟩
  let t := v.completeEach es
  obtain ⟨w, n, ht⟩ : ∃ w n, t = { v with window := w, intake := n } := ⟨_, _, completeEach_frame ..⟩
  have hnone : NothingPending t := by
    rw [ht]
    intro k hk
    have hki : k = i := Source.slot.inj (Option.some.inj (hk.symm.trans htarget))
    rw [show ({ v with window := w, intake := n } : State).slot k = s.slot i from congrArg s.slot hki, hrun]
    rfl
  have hjudge : s.judge = t.fallback .outOfRange := by
    have hfail : s.judge = s.failToFallback .outOfRange := by
      simp only [State.judge, hphase, if_true, htarget, State.isStable, hstable, hrun, and_self, hfits,
        Bool.false_eq_true, if_false]
    rw [hfail, State.failToFallback, completeActive_switch]
    exact congrArg (State.fallback · .outOfRange) (withdrawTarget_nothing hnone)
  obtain ⟨pages, hq⟩ := fallback_marks t .outOfRange
  have hm := (OnlyMarks.refl t).fallback .outOfRange
  rw [hq] at hm
  refine ⟨pages, ?_, OnlyMarks.trans (OnlyMarks.congr (OnlyMarks.refl s) (by rw [ht])) (OnlyMarks.congr hm (by rfl))⟩
  refine Eq.trans ?_ (completeEach_of (v := v) rfl rfl)
  rw [show v.completeEach _ = t from rfl, hjudge, hq, ht]
  rfl

/-- A command whose effect beside the marks is that of `m`. -/
theorem stepped_by {s m : State} {x : Host.Outcome State Fault Refusal} (hx : x = finish s m) (hm : OnlyMarks s m) :
    ∃ p, x = .next { m with pages := p } ∧ OnlyMarks s { m with pages := p } ∧
      ∀ id, (m.pages.get id).mark = true → (p.get id).mark = true :=
  ⟨remarkPages s m, hx.trans (finish_eq ..), hm.finish, remarkPages_keeps s m⟩

theorem PerSource.set_get {α : Type} (t : PerSource α) (src : Source) : t.set src (t.get src) = t := by
  cases src with
  | menu => rfl
  | slot i => simp [PerSource.set, PerSource.get]

/-- The vertical pulse that ends a frame of a slot's LIVE record (R70, R71, R79). -/
theorem vsyncAt_live {width : Nat} {j : SyncRec × Judged}
    (hw : (s.record (.slot i)).separation (s.windowLow (.slot i)) < width * 64)
    (hedge : ∀ e, (s.record (.slot i)).lastEdge = some e →
      (s.record (.slot i)).separation (s.windowLow (.slot i)) ≤ (stamp - e).toNat * 2)
    (hhsync : ∀ h, (s.record (.slot i)).lastHsync = some h → h = stamp ∨ 0x80000000 ≤ (h - stamp).toNat)
    (hcond : (s.record (.slot i)).condition = .live) (hopen : (s.record (.slot i)).frameOpen = true)
    (hj : ((s.record (.slot i)).ended stamp).judge (s.windowLow (.slot i)) (s.windowHigh (.slot i)) = j) :
    ∃ m pages, s.vsyncAt (.slot i) .horizontal ⟨stamp, width⟩ =
        ((s.measured (.slot i) j.1 m pages).signalIf (.slot i)
          (stabilityEvent (s.record (.slot i)).stable j.1.stable)).announce (.slot i) stamp ∧
      OnlyMarks s { s with pages := pages } := by
  obtain ⟨m, pages, hv, hm⟩ := vsyncAt_slot (i := i)
    (vsyncEdge_judged hcond (merges_apart hedge) hopen (linesAfter_none hhsync) hj) hw
  exact ⟨m, pages, hv.trans (if_pos rfl), hm⟩

/-- The record that the eighth agreeing frame leaves (R75). -/
def SyncRec.eighth (r : SyncRec) (stamp : Stamp) (c l : Nat) (seen : List Nat) (b : Bool) : SyncRec := { r.ended stamp with
  stable := true, stableCount := 8, p := c, lastP := c, l := l, lastL := l, linesSeen := seen, interlaced := b }

/-- The state in which the edge of an eighth agreeing frame is signalled (R79, R80). -/
def State.stableAt (s : State) (i : Slot) (e : SyncRec) (m : Stamp) (pages : Pages) : State :=
  (s.measured (.slot i) e m pages).markSource (.slot i)

theorem stableAt_record (s : State) (i : Slot) (e : SyncRec) (m : Stamp) (pages : Pages) :
    (s.stableAt i e m pages).record (.slot i) = e := measured_record ..

/-- The edge of the eighth agreeing frame of a slot that is no target (R75, R130). -/
theorem eighth_settles {e : SyncRec} {m : Stamp} {pages : Pages} {after : SlotRec} (hmode : s.raster.mode = .hold)
    (harm : s.raster.cutArm = none) (htarget : s.ho.target ≠ some (.slot i)) (h : SettlesTo s i after) :
    ((s.measured (.slot i) e m pages).signal (.slot i) .stable).announce (.slot i) stamp =
      { s.stableAt i e m pages with slots := s.slots.set i after } := by
  have hsettle := slotStable_settles (s := s.stableAt i e m pages) (after := after) h
  rw [signal_stable (s := s.measured (.slot i) e m pages) htarget]
  refine (congrArg (State.announce · (.slot i) stamp) hsettle).trans ?_
  exact announce_hold hmode harm

/-- The edge of the eighth agreeing frame of an outgoing that is still on air (R87, R130). -/
theorem eighth_onAir {e : SyncRec} {m : Stamp} {pages : Pages} (hmode : s.raster.mode = .pass)
    (hx : s.raster.crosspoint = some (.slot i)) (horder : s.raster.releaseOrder ≠ some (.slot i))
    (htarget : s.ho.target ≠ some (.slot i)) (hs : (s.slot i).state = .lost) (hair : s.ho.onAir = some (.slot i))
    (he : e.stable = true) :
    ((s.measured (.slot i) e m pages).signal (.slot i) .stable).announce (.slot i) stamp =
      { s.stableAt i e m pages with
        slots := s.slots.set i { s.slot i with state := .onAir, grace := none },
        raster := { s.raster with pass := some ⟨e.lastP, e.lastL⟩ } } := by
  let v : State := { s.stableAt i e m pages with slots := s.slots.set i { s.slot i with state := .onAir, grace := none } }
  have hback : (s.stableAt i e m pages).slotStable i = v := slotStable_onAir hs hair
  have hnote : v.raster.notePass (.slot i) (v.record (.slot i)) =
      { s.raster with pass := some ⟨e.lastP, e.lastL⟩ } := by
    rw [show v.record (.slot i) = e from stableAt_record s i e m pages]
    exact (notePass_pass s.raster e hmode hx).trans (by rw [if_pos he])
  rw [signal_stable (s := s.measured (.slot i) e m pages) htarget]
  refine (congrArg (State.announce · (.slot i) stamp) hback).trans ?_
  rw [announce_passes (s := v) (fun _ => horder) fun h => absurd (hmode.symm.trans h) (by decide), hnote]

/-- What STABLE makes of a slot that may be RUNNING already. -/
theorem slotStable_target {after : SlotRec} (h : SettlesTo s i after ∨ (s.slot i).state = .running ∧ after = s.slot i) :
    s.slotStable i = { s with slots := s.slots.set i after } ∧ after.state = .running := by
  rcases h with h | ⟨hs, rfl⟩
  · refine ⟨slotStable_settles h, ?_⟩
    rcases h with ⟨-, -, rfl⟩ | ⟨-, -, rfl⟩ <;> rfl
  · refine ⟨?_, hs⟩
    rw [slotStable_running hs, State.slot, PerSlot.set_get]

/-- The state in which an awaited target is judged (R108). -/
def State.judgedAt (s : State) (i : Slot) (e : SyncRec) (m : Stamp) (pages : Pages) (after : SlotRec) : State :=
  { s.stableAt i e m pages with slots := s.slots.set i after }

theorem eighth_target {e : SyncRec} {m : Stamp} {pages : Pages} {after : SlotRec} (htarget : s.ho.target = some (.slot i))
    (h : SettlesTo s i after ∨ (s.slot i).state = .running ∧ after = s.slot i) :
    (s.measured (.slot i) e m pages).signal (.slot i) .stable = (s.judgedAt i e m pages after).judge :=
  signal_target (s := s.measured (.slot i) e m pages) htarget (slotStable_target (s := s.stableAt i e m pages) h).1

theorem judgedAt_slot (s : State) (i : Slot) (e : SyncRec) (m : Stamp) (pages : Pages) (after : SlotRec) :
    (s.judgedAt i e m pages after).slot i = after := PerSlot.get_set_same ..

theorem judgedAt_record (s : State) (i : Slot) (e : SyncRec) (m : Stamp) (pages : Pages) (after : SlotRec) :
    (s.judgedAt i e m pages after).record (.slot i) = e := stableAt_record s i e m pages

theorem judgedAt_fits (s : State) (i : Slot) (e : SyncRec) (m : Stamp) (pages : Pages) (after : SlotRec) :
    (s.judgedAt i e m pages after).fitsMonitor (.slot i) = true ↔ s.raster.pMin ≤ e.lastP ∧ e.lastP ≤ s.raster.pMax := by
  rw [State.fitsMonitor, judgedAt_record]
  exact Bool.and_eq_true_iff.trans (and_congr decide_eq_true_iff decide_eq_true_iff)

/-- The awaited target stands ready, and the raster glides to it (R108, R109). -/
theorem eighth_reaches {e : SyncRec} {m : Stamp} {pages : Pages} {after : SlotRec} (hphase : s.ho.phase = .waitTarget)
    (htarget : s.ho.target = some (.slot i)) (hmode : s.raster.mode = .hold) (harm : s.raster.cutArm = none)
    (h : SettlesTo s i after ∨ (s.slot i).state = .running ∧ after = s.slot i) (he : e.stable = true)
    (hfits : s.raster.pMin ≤ e.lastP ∧ e.lastP ≤ s.raster.pMax) :
    ∃ pages', ((s.measured (.slot i) e m pages).signal (.slot i) .stable).announce (.slot i) stamp =
        { s.judgedAt i e m pages after with pages := pages', ho := { s.ho with phase := .glide } } ∧
      OnlyMarks (s.stableAt i e m pages) { s with pages := pages' } := by
  have hrun : ((s.judgedAt i e m pages after).slot i).state = .running := by
    rw [judgedAt_slot]
    exact (slotStable_target h).2
  have hready : Reaches (s.judgedAt i e m pages after) (.slot i) .glide :=
    .inl ⟨⟨hrun, by rw [judgedAt_record]; exact he, (judgedAt_fits ..).2 hfits⟩, rfl⟩
  obtain ⟨pages', hq, hm⟩ := judge_reaches (t := s.judgedAt i e m pages after) hphase htarget harm hready
  refine ⟨pages', ?_, OnlyMarks.congr hm (by rfl)⟩
  rw [eighth_target htarget h, hq]
  exact announce_hold hmode harm

/-- The awaited target is stable at a line period that the monitor refuses (R109, R119, R121). -/
theorem eighth_refused {e : SyncRec} {m : Stamp} {pages : Pages} {after : SlotRec} (hphase : s.ho.phase = .waitTarget)
    (htarget : s.ho.target = some (.slot i)) (hmode : s.raster.mode = .hold) (harm : s.raster.cutArm = none)
    (h : SettlesTo s i after ∨ (s.slot i).state = .running ∧ after = s.slot i) (he : e.stable = true)
    (hfits : ¬ (s.raster.pMin ≤ e.lastP ∧ e.lastP ≤ s.raster.pMax)) :
    ∃ pages', ((s.measured (.slot i) e m pages).signal (.slot i) .stable).announce (.slot i) stamp =
        ({ s.judgedAt i e m pages after with
          pages := pages',
          ho := { s.ho with
            phase := if (s.record .menu).stable then .glide else .waitTarget, kind := .fallback,
            target := some .menu, lastFallback := .outOfRange, active := none, cutFeed := false, carry := 0 } }).completeEach
          (s.ho.active.toList.map fun a : SwitchJob =>
            ⟨a.cell, .targetFailed, 5, [a.target.number, s.ho.frames, s.ho.evicted.toNat, 0]⟩) ∧
      OnlyMarks (s.stableAt i e m pages) { s with pages := pages' } := by
  have hrun : ((s.judgedAt i e m pages after).slot i).state = .running := by
    rw [judgedAt_slot]
    exact (slotStable_target h).2
  obtain ⟨pages', hq, hm⟩ := judge_refuses (s := s.judgedAt i e m pages after) hphase htarget
    (by rw [judgedAt_record]; exact he) hrun
    (Bool.eq_false_iff.2 fun hc => hfits ((judgedAt_fits ..).1 hc))
  have hmenu : (s.judgedAt i e m pages after).record .menu = s.record .menu :=
    measured_other s e m pages (by simp)
  have hraster : ({ s.raster with cutArm := none } : Raster) = s.raster := by rw [← harm]
  let u : State := { s.judgedAt i e m pages after with
    pages := pages',
    ho := { s.ho with
      phase := if (s.record .menu).stable then .glide else .waitTarget, kind := .fallback,
      target := some .menu, lastFallback := .outOfRange, active := none, cutFeed := false, carry := 0 } }
  have hq' : (s.judgedAt i e m pages after).judge = u.completeEach (s.ho.active.toList.map fun a : SwitchJob =>
      ⟨a.cell, .targetFailed, 5, [a.target.number, s.ho.frames, s.ho.evicted.toNat, 0]⟩) := by
    refine hq.trans (congrArg (State.completeEach · _) ?_)
    rw [hmenu]
    exact congrArg (fun r : Raster => ({ u with raster := r } : State)) hraster
  refine ⟨pages', ?_, OnlyMarks.congr hm (by rfl)⟩
  rw [eighth_target htarget h, hq']
  refine announce_hold ?_ ?_
  · rw [completeEach_frame]; exact hmode
  · rw [completeEach_frame]; exact harm

/-- An edge that ends the run of a slot aside: UNSTABLE is signalled where the record was stable (R73, R79, R129). -/
theorem fresh_signals {e : SyncRec} {m : Stamp} {pages : Pages} (hm : OnlyMarks s { s with pages := pages })
    (haside : Aside s i) (hmode : s.raster.mode = .hold) (harm : s.raster.cutArm = none)
    (hs : (s.slot i).state ≠ .onAir) (stable : Bool) :
    ∃ pages', ((s.measured (.slot i) e m pages).signalIf (.slot i) (stabilityEvent stable false)).announce (.slot i) stamp =
        { s.measured (.slot i) e m pages' with slots := if stable then s.lostSlots i else s.slots } ∧
      OnlyMarks s { s with pages := pages' } ∧
      (stable = true → (pages'.get (.source (.slot i))).mark = true) := by
  let u := s.measured (.slot i) e m pages
  cases stable with
  | true =>
    have hmarked := (OnlyMarks.congr (u := u) hm rfl).mark (.source (.slot i))
    refine ⟨(u.markSource (.slot i)).pages, ?_, hmarked.congr rfl, fun _ => markSource_mark u (.slot i)⟩
    refine (congrArg (State.announce · (.slot i) stamp) (signal_unstable (s := u) haside hs)).trans ?_
    exact announce_hold hmode harm
  | false => exact ⟨pages, announce_hold (s := u) hmode harm, hm, fun h => absurd h Bool.false_ne_true⟩

theorem lostSlots_eq (s : State) (i : Slot) (stable : Bool) : (if stable then s.lostSlots i else s.slots) =
    if stable = true ∧ (s.slot i).state = .running then
      s.slots.set i { s.slot i with state := .lost, grace := some (s.figure i Descriptor.grace * 10) }
    else s.slots := by
  cases stable with
  | true => simp only [if_true, State.lostSlots, true_and]
  | false => simp

/-- Settles O50, by what the pulse is to the record: none, passed over, a resumption, the eighth agreeing frame, or the end
of a run. -/
theorem vsyncEdgeMeasures : Obligations.VsyncEdgeMeasures := by
  intro s i stamp width src r separation beside
  refine ⟨fun hw => ?_, fun hw hedge => ?_, fun hw hedge hhsync => ⟨fun h hbeside hcond he hle => ?_,
    fun c n hcond hopen hn hc => ?_⟩⟩
  · have hnone : s.vsyncAt src .horizontal ⟨stamp, width⟩ = s := by
      simp only [State.vsyncAt, SyncRec.isVertical]
      refine if_neg fun hc => ?_
      exact absurd (of_decide_eq_true (Bool.and_eq_true_iff.1 hc).2) (Nat.not_lt.2 hw)
    obtain ⟨p, he, hm, -⟩ := stepped_by (congrArg (finish s) hnone) (OnlyMarks.refl s)
    exact ⟨_, he, rfl, hm⟩
  · obtain ⟨e, he, hlt⟩ := hedge
    obtain ⟨m, pages, hv, hm⟩ := vsyncAt_slot (i := i) (stamp := stamp) (vsyncEdge_merged (merges_within he hlt)) hw
    have hrecords : s.sync.records.set src r = s.sync.records := PerSource.set_get ..
    obtain ⟨p, he, hmarks, -⟩ := stepped_by (congrArg (finish s) hv) (OnlyMarks.congr hm (by rfl))
    exact ⟨_, he, hrecords, rfl, hmarks⟩
  · have ho := vsyncEdge_resumes (hi := s.windowHigh src) hcond (merges_apart hedge) (linesAfter_none hhsync) he hle
    obtain ⟨m, pages, hv, hm⟩ := vsyncAt_slot (i := i) ho hw
    have hdone : s.vsyncAt src .horizontal ⟨stamp, width⟩ = _ := hv.trans (announce_hold hbeside.2.1 hbeside.2.2)
    obtain ⟨p, he, hmarks, -⟩ := stepped_by (congrArg (finish s) hdone) (OnlyMarks.congr hm (by rfl))
    exact ⟨_, he, measured_record s .., fun other hne => measured_other s _ m pages hne, rfl, hmarks⟩
  · subst hn
    intro valid ended
    have hvalid : validCandidate (s.windowLow src) (s.windowHigh src) c r.lines = true ↔ valid := validCandidate_iff
    have hframe : r.lines = (r.ended stamp).frameLines := rfl
    have hcand : c = candidate (r.ended stamp).frameTime.toNat r.lines := hc
    refine ⟨fun ref href hcount hstable hv ha => ?_, fun after hafter hbeside hair => ?_⟩
    · intro eighth settles
      obtain ⟨l, seen, b, hl, hcont⟩ := continueRun_eighth (r := r.ended stamp) (c := c) (n := r.lines) hcount
      let e := r.eighth stamp c l seen b
      have hj : (r.ended stamp).judge (s.windowLow src) (s.windowHigh src) = (e, .agreed) :=
        (judge_agrees hframe hcand (hvalid.2 hv) href ha).trans (congrArg (fun x => (x, Judged.agreed)) hcont)
      obtain ⟨m, pages, hlive, hm⟩ := vsyncAt_live hw hedge hhsync hcond hopen hj
      have hstep : s.vsyncAt src .horizontal ⟨stamp, width⟩ =
          ((s.measured src e m pages).signal src .stable).announce src stamp := by
        rw [hlive, show (s.record (.slot i)).stable = false from hstable]
        rfl
      have heighth (t : State) (hsync : t.sync = (s.stableAt i e m pages).sync)
          (hmark : (t.pages.get (.source src)).mark = true) (hmarks : OnlyMarks s t) : eighth t := by
        have hrec : t.record src = e := by
          rw [State.record, hsync]
          exact stableAt_record s i e m pages
        refine ⟨by rw [hrec]; exact hl, by rw [hrec]; rfl, hmark, fun other hne => ?_, hmarks⟩
        rw [State.record, hsync]
        exact measured_other s e m pages hne
      have hbase : OnlyMarks s (s.stableAt i e m pages) := (OnlyMarks.congr hm (by rfl)).mark (.source src)
      have hshown : ((s.stableAt i e m pages).pages.get (.source src)).mark = true :=
        markSource_mark (s.measured src e m pages) src
      refine ⟨fun after hbeside htarget hsettles => ?_, fun hphase hair hlost htarget hmode hx horder => ?_,
        fun after hafter hphase htarget hair hmode harm => ⟨fun hlo hhi => ?_, fun hout hwf hheld => ?_⟩⟩
      · have hdone := hstep.trans (eighth_settles (stamp := stamp) (e := e) (m := m) (pages := pages) hbeside.2.1
          hbeside.2.2 htarget hsettles)
        obtain ⟨p, he, hmarks, hkeep⟩ := stepped_by (congrArg (finish s) hdone) (OnlyMarks.congr hbase (by rfl))
        exact ⟨_, he, heighth _ rfl (hkeep _ hshown) hmarks, rfl, rfl⟩
      · have hdone := hstep.trans (eighth_onAir (stamp := stamp) (e := e) (m := m) (pages := pages) hmode hx horder
          htarget hlost hair rfl)
        obtain ⟨p, he, hmarks, hkeep⟩ := stepped_by (congrArg (finish s) hdone) (OnlyMarks.congr hbase (by rfl))
        refine ⟨_, he, heighth _ rfl (hkeep _ hshown) hmarks, rfl, ?_, rfl⟩
        have hl' : ((s.stableAt i e m pages).record src).l = l := congrArg SyncRec.l (stableAt_record s i e m pages)
        exact congrArg (fun x => ({ s.raster with pass := some ⟨c, x⟩ } : Raster)) hl'.symm
      · obtain ⟨pages', hq, hm'⟩ := eighth_reaches (stamp := stamp) (e := e) (m := m) (pages := pages) hphase htarget
          hmode harm hafter rfl ⟨hlo, hhi⟩
        obtain ⟨p, he, hmarks, hkeep⟩ := stepped_by (congrArg (finish s) (hstep.trans hq))
          (OnlyMarks.congr (OnlyMarks.trans hbase hm') (by rfl))
        exact ⟨_, he, heighth _ rfl (hkeep _ ((hm' _).2 hshown)) hmarks, rfl, rfl, rfl⟩
      · obtain ⟨pages', hq, hm'⟩ := eighth_refused (stamp := stamp) (e := e) (m := m) (pages := pages) hphase htarget
          hmode harm hafter rfl (fun hc => hout.elim (Nat.not_lt.2 hc.1) (Nat.not_lt.2 hc.2))
        have hcells : Held s ((s.ho.active.toList.map fun a : SwitchJob => (⟨a.cell, .targetFailed, 5,
            [a.target.number, s.ho.frames, s.ho.evicted.toNat, 0]⟩ : Ending)).map Ending.cell) := by
          rw [List.map_map]
          exact hheld
        obtain ⟨w, n, p, he, hjobs, hkeep⟩ := ended_by (congrArg (finish s) (hstep.trans hq)) hwf rfl rfl
          (OnlyMarks.congr (OnlyMarks.trans hbase hm') (by rfl)) hcells
        exact ⟨_, he, heighth _ rfl (hkeep _ ((hm' _).2 hshown)) hjobs.marks, hjobs, rfl, rfl, rfl⟩
    · have hj : (r.ended stamp).judge (s.windowLow src) (s.windowHigh src) = (after, .newRun) ∧ after.stable = false := by
        rcases hafter with ⟨hv, ha, rfl⟩ | ⟨hv, rfl⟩
        · exact ⟨judge_starts hframe hcand (hvalid.2 hv) ha, rfl⟩
        · exact ⟨judge_ends hframe hcand fun h => hv (hvalid.1 h), rfl⟩
      obtain ⟨m, pages, hlive, hm⟩ := vsyncAt_live hw hedge hhsync hcond hopen hj.1
      rw [hj.2] at hlive
      obtain ⟨pages', hdone, hmarks, hmark⟩ := fresh_signals (e := after) (m := m) (stamp := stamp) hm hbeside.1
        hbeside.2.1 hbeside.2.2 hair r.stable
      obtain ⟨p, he, hmarks', hkeep⟩ := stepped_by (congrArg (finish s) (hlive.trans hdone))
        (OnlyMarks.congr hmarks (by rfl))
      refine ⟨_, he, measured_record s src after m pages', fun h => hkeep _ (hmark h), ?_,
        fun other hne => measured_other s after m pages' hne, rfl, hmarks'⟩
      exact lostSlots_eq s i r.stable

end
end Sys2Proof.Machine
end

section
namespace Sys2Proof.Machine

/-! ### EEPROM_READ and EEPROM_WRITE at their take (R51, R57, R58) -/

section
variable {s : State} {j : Job} {i : Slot} {act : Slot → Job → State → State} {lengthOk : Nat → Nat → Bool}

/-- An EEPROM job that passes the checks of slot, byte address and length, for a slot with a board that is not being
loaded, goes on as the job's own (R57, R58). -/
theorem eepromChecks_passed (hi : Slot.ofNumber (j.word 2) = some i) (haddr : j.word 3 ≤ 255)
    (hlen : lengthOk (j.word 3) (j.word 4) = true) (hempty : (s.slot i).state ≠ .empty)
    (hloading : (s.slot i).state ≠ .loading) : eepromChecks lengthOk act j s = act i j s := by
  have hboard : ¬ ((s.slot i).state = .empty ∨ (s.slot i).state = .loading) := not_or.2 ⟨hempty, hloading⟩
  simp only [eepromChecks, hi, Nat.not_lt.2 haddr, if_false, hlen, Bool.true_eq_false, hboard]

theorem readLengthOk_iff {addr len : Nat} : readLengthOk addr len = true ↔ 1 ≤ len ∧ len ≤ 16 ∧ addr + len ≤ 256 := by
  simp [readLengthOk, and_assoc]

theorem writeLengthOk_iff {addr len : Nat} :
    writeLengthOk addr len = true ↔ 1 ≤ len ∧ len ≤ 8 ∧ addr % 8 + len ≤ 8 := by
  simp [writeLengthOk, and_assoc]

/-- A write of allowed bytes is queued (R58). -/
theorem queueWrite_allowed (h : 32 ≤ j.word 3 ∨ s.router.operatorKey = true) :
    queueWrite i j s = s.enqueue ⟨.write, i, j.word 3, j.word 4, j.writeData, [j.cell]⟩ := by
  refine if_neg fun ⟨hbelow, hkey⟩ => ?_
  rcases h with haddr | hopen
  · exact absurd haddr (Nat.not_le.2 hbelow)
  · exact absurd (hkey.symm.trans hopen) (by decide)

/-- A job whose owner puts a request at the tail of the bus queue waits there (R8, R51). -/
theorem queued_at_take {due : Job → Bool} {act : Job → State → State} {q : BusRequest} (hj : s.headJob = some j)
    (hd : due j = true) (hact : act j (s.take j.cell) = (s.take j.cell).enqueue q) :
    ∃ t, finish s (s.takeIf due act) = .next t ∧ WaitsWithOwner s t j ∧
      t.bus = { s.bus with queue := s.bus.queue ++ [q] } ∧ t.pages.cabinet.mark = true ∧
      t = { s with intake := t.intake, pages := t.pages, bus := t.bus } := by
  obtain ⟨p, he, hwait, hkeep⟩ := waits_at_take hj hd hact rfl rfl (((OnlyMarks.refl s).mark .cabinet).congr rfl)
  exact ⟨_, he, hwait, rfl, hkeep .cabinet rfl, rfl⟩

end

/-- Settles O36. -/
theorem eepromJobsQueued : Obligations.EepromJobsQueued := by
  intro s j i hw hj hi haddr hpos hempty hloading
  refine ⟨fun hkind hlen hend => ?_, fun hkind hlen hpage => ?_⟩
  · have hok := readLengthOk_iff.2 ⟨hpos, hlen, hend⟩
    exact queued_at_take hj (by simp [Job.isKind, hkind])
      (eepromChecks_passed (s := s.take j.cell) hi haddr hok hempty hloading)
  · have hok := writeLengthOk_iff.2 ⟨hpos, hlen, hpage⟩
    have hd : Job.isKind 9 j = true := by simp [Job.isKind, hkind]
    have hpass : eepromChecks writeLengthOk queueWrite j (s.take j.cell) = queueWrite i j (s.take j.cell) :=
      eepromChecks_passed (s := s.take j.cell) hi haddr hok hempty hloading
    exact ⟨fun hallowed => queued_at_take hj hd (hpass.trans (queueWrite_allowed (s := s.take j.cell) hallowed)),
      fun hbelow hkey => refused_at_take hw hj hd (hpass.trans (if_pos ⟨hbelow, hkey⟩))⟩

end Sys2Proof.Machine
end

section
namespace Sys2Proof.Machine

/-! ### The bus at its head request, and the mtick counter run on (R49 to R51, R65) -/

section
variable {s : State} {q : BusRequest} {rest : List BusRequest}

/-- The counter run on to an instant ahead of it (assumption 9). -/
def Sync.runOn (u : Sync) (t : Stamp) : Sync :=
  { u with mtick := if (t - u.mtick).toNat < 0x80000000 then t else u.mtick }

theorem advanceTo_runOn (s : State) (t : Stamp) : s.advanceTo t = { s with sync := s.sync.runOn t } := by
  by_cases h : (t - s.sync.mtick).toNat < 0x80000000
  · simp only [State.advanceTo, reached, ticksFrom, Sync.runOn, h, decide_true, if_true]
  · simp only [State.advanceTo, reached, ticksFrom, Sync.runOn, h, decide_false, Bool.false_eq_true, if_false]

/-- The request in flight, with no soft restart waiting for it. -/
theorem running_of_busy (hstop : s.bus.stopping = false) (hq : s.bus.queue = q :: rest) (hp : s.bus.phase ≠ .idle) :
    s.running = some q := by
  rw [State.running, hstop, serving_of_busy hq hp]
  rfl

theorem startRequest_idle (hphase : s.bus.phase = .idle) (hrec : s.bus.recovery = none) (hq : s.bus.queue = q :: rest) :
    s.startRequest = { s with bus.phase := if q.kind = .write then .writing else .reading } := by
  simp only [State.startRequest, hphase, hrec, hq]

/-- No request begins while a recovery interval runs (R50). -/
theorem startRequest_recovering (h : s.bus.recovery ≠ none) : s.startRequest = s := by
  unfold State.startRequest
  split
  · next hrec _ => exact absurd hrec h
  · rfl

/-- The slot switch connects the branch of the request in flight (R47). -/
theorem branch_of_busy (hq : s.bus.queue = q :: rest) (hp : s.bus.phase ≠ .idle) : s.branch = some q.slot := by
  unfold State.branch
  split
  · contradiction
  all_goals rw [hq]; rfl

theorem dataStop_writing (hphase : s.bus.phase = .writing) (hstop : s.bus.stopping = false)
    (hq : s.bus.queue ≠ []) :
    s.dataStop = { s with bus.phase := .polling 0 (s.sync.firstTickAfterMs s.sync.mtick) } := by
  obtain ⟨q, rest, hq⟩ := List.exists_cons_of_ne_nil hq
  have hrun := running_of_busy hstop hq (by rw [hphase]; exact BusPhase.noConfusion)
  exact if_pos ⟨by rw [hrun]; rfl, hphase⟩

/-- The first ms tick at least 1 ms after an instant is the k-th from the latest tick, for the least such k (R49). -/
theorem firstTickAfterMs_least (t : Stamp) (u : Sync) :
    ∃ k, u.firstTickAfterMs t = u.tickAt + BitVec.ofNat 32 (k * 24000) ∧
      (t - u.tickAt).toNat + 24000 ≤ k * 24000 ∧ k * 24000 < (t - u.tickAt).toNat + 48000 := by
  refine ⟨(ticksFrom u.tickAt t + 2 * Config.mticksPerMs - 1) / Config.mticksPerMs, rfl, ?_⟩
  simp only [ticksFrom, Config.mticksPerMs]
  omega

theorem recovered_some {i : Slot} {ends : Stamp} (h : s.bus.recovery = some (i, ends)) :
    s.recovered = { s with bus := { s.bus with recovery := none }, sync := s.sync.runOn ends } := by
  simp only [State.recovered, h, advanceTo_runOn]

end

/-- Settles O45: the start of a request, the turn to polling, no start during a recovery interval, and its end. -/
theorem busServesHead : Obligations.BusServesHead := by
  refine ⟨fun s q rest hphase hrec hq => ?_, fun s hphase hstop hq _ => ?_, fun s hrec => ?_, fun s i ends hrec => ?_⟩
  · obtain ⟨p, he, hmarks, -⟩ := stepped_by (congrArg (finish s) (startRequest_idle hphase hrec hq)) (OnlyMarks.refl s)
    refine ⟨_, he, rfl, branch_of_busy (rest := rest) hq ?_, rfl, hmarks⟩
    show (if q.kind = .write then BusPhase.writing else .reading) ≠ .idle
    split <;> exact BusPhase.noConfusion
  · obtain ⟨k, hk, hlate, hleast⟩ := firstTickAfterMs_least s.sync.mtick s.sync
    have hm := dataStop_writing hphase hstop hq
    rw [hk] at hm
    obtain ⟨p, he, hmarks, -⟩ := stepped_by (congrArg (finish s) hm) (OnlyMarks.refl s)
    exact ⟨_, k, he, rfl, hlate, hleast, rfl, hmarks⟩
  · obtain ⟨p, he, hmarks, -⟩ := stepped_by (congrArg (finish s) (startRequest_recovering hrec)) (OnlyMarks.refl s)
    exact ⟨_, he, rfl, hmarks⟩
  · obtain ⟨p, he, hmarks, -⟩ := stepped_by (congrArg (finish s) (recovered_some hrec)) (OnlyMarks.refl s)
    exact ⟨_, he, rfl, rfl, rfl, hmarks⟩

end Sys2Proof.Machine
end

section
namespace Sys2Proof.Machine

/-! ### Transactions of EEPROM jobs as they end (R48 to R51, R57, R59, R60) -/

section
variable {s : State} {q : BusRequest} {rest : List BusRequest} {c : CellNo} {n : Nat} {due : Stamp}

/-- A command whose effect is that of `m` and the end of one job. -/
theorem completed_by {m : State} {r : Result} {d : Nat} {l : List Nat} {x : Host.Outcome State Fault Refusal}
    (hx : x = finish s (m.complete c r d l)) (hw : s.window.wf = true) (hc : s.cell c = .taken)
    (hwin : m.window = s.window) (hint : m.intake = s.intake) (hm : OnlyMarks s m) :
    ∃ w n p, x = .next { m with window := w, intake := n, pages := p } ∧
      CompletesCell s { m with window := w, intake := n, pages := p } c r d l ∧
      ∀ id, (m.pages.get id).mark = true → (p.get id).mark = true := by
  obtain ⟨p, he, hmarks, hkeep⟩ := stepped_by hx (hm.congr (complete_pages m c r d l))
  have hframe : ({ m.complete c r d l with pages := p } : State) = { m with
      window := (m.complete c r d l).window, intake := (m.complete c r d l).intake, pages := p } :=
    congrArg (fun t : State => { t with pages := p }) (complete_frame m c r d l)
  rw [hframe] at he hmarks
  rw [complete_pages] at hkeep
  exact ⟨_, _, p, he, completesCell_of hw hwin hint hc hmarks rfl rfl, hkeep⟩

/-- The bus once its head request has left the queue (R51). -/
def Bus.without (b : Bus) (rest : List BusRequest) : Bus := { b with queue := rest, phase := .idle, stopping := false }

theorem dequeue_head (hq : s.bus.queue = q :: rest) :
    s.dequeue = { s with pages := s.markCabinet.pages, bus := s.bus.without rest } := by
  rw [State.dequeue, hq]
  rfl

theorem dequeue_polled (hq : s.bus.queue = q :: rest) (u : Sync) : ({ s with sync := u } : State).dequeue =
    { s with pages := s.markCabinet.pages, bus := s.bus.without rest, sync := u } := dequeue_head hq

theorem completeAll_one (hcells : q.cells = [c]) (t : State) (r : Result) (d : Nat) (l : List Nat) :
    t.completeAll q.cells r d l = t.complete c r d l := by
  rw [hcells]
  rfl

theorem onlyMarks_dequeued (s : State) (b : Bus) (u : Sync) :
    OnlyMarks s { s with pages := s.markCabinet.pages, bus := b, sync := u } :=
  ((OnlyMarks.refl s).mark .cabinet).congr rfl

/-- A transaction leaves the bus at `b` and the counter at `u`, and its job ends (R10, R51). -/
theorem transaction_ended {b : Bus} {u : Sync} {r : Result} {d : Nat} {l : List Nat}
    {x : Host.Outcome State Fault Refusal}
    (hx : x = finish s (({ s with pages := s.markCabinet.pages, bus := b, sync := u } : State).complete c r d l))
    (hw : s.window.wf = true) (hc : s.cell c = .taken) :
    ∃ w n p, x = .next { s with window := w, intake := n, pages := p, bus := b, sync := u } ∧
      CompletesCell s { s with window := w, intake := n, pages := p, bus := b, sync := u } c r d l ∧
      p.cabinet.mark = true := by
  obtain ⟨w, n, p, he, hend, hkeep⟩ := completed_by hx hw hc rfl rfl (onlyMarks_dequeued s b u)
  exact ⟨w, n, p, he, hend, hkeep .cabinet rfl⟩

/-- A transaction that only leaves the queue, with its job's end (R10, R51). -/
theorem dequeued_ended {r : Result} {d : Nat} {l : List Nat} {x : Host.Outcome State Fault Refusal}
    (hq : s.bus.queue = q :: rest) (hcells : q.cells = [c])
    (hx : x = finish s (s.dequeue.completeAll q.cells r d l)) (hw : s.window.wf = true) (hc : s.cell c = .taken) :
    ∃ t, x = .next t ∧ CompletesCell s t c r d l ∧ t.bus = s.bus.without rest ∧ t.pages.cabinet.mark = true ∧
      t = { s with window := t.window, intake := t.intake, pages := t.pages, bus := t.bus } := by
  rw [completeAll_one hcells, dequeue_head hq] at hx
  obtain ⟨w, n, p, he, hend, hcab⟩ := transaction_ended hx hw hc
  exact ⟨_, he, hend, rfl, hcab, rfl⟩

/-! #### The end of an EEPROM_READ (R48, R57) -/

theorem isLoad_read (h : q.kind = .read) : q.isLoad = false := by
  rw [BusRequest.isLoad, h]

theorem exec_readEnd {bytes : List Byte} (hphase : s.bus.phase = .reading) (hstop : s.bus.stopping = false)
    (hq : s.bus.queue = q :: rest) (hkind : q.kind = .read) (hlen : bytes.length = q.len) :
    exec (.readTransactionEnd bytes) s = finish s (s.dequeue.completeAll q.cells .ok 0 (packBytes bytes)) := by
  have hend : s.endRead bytes = s.readDone q bytes := by
    simp only [State.endRead, running_head hphase hstop hq, if_pos (And.intro hphase hlen)]
  have hdone : s.readDone q bytes = s.dequeue.completeAll q.cells .ok 0 (packBytes bytes) := by
    simp only [State.readDone, isLoad_read hkind, Bool.false_eq_true, if_false]
  exact congrArg (finish s) (hend.trans hdone)

/-! #### Polls (R49) -/

theorem exec_ackPoll (hstop : s.bus.stopping = false) (hq : s.bus.queue = q :: rest)
    (hphase : s.bus.phase = .polling n due) (a : Bool) :
    exec (.ackPoll a) s = finish s (({ s with sync := s.sync.runOn due } : State).polled q n due a) := by
  have hserve : s.serving = some q := serving_of_busy hq (by rw [hphase]; exact BusPhase.noConfusion)
  refine congrArg (finish s) ?_
  simp only [State.poll, hserve, hphase, hstop, Bool.false_eq_true, if_false, advanceTo_runOn]

/-- At the 10th poll a timeout stands for an unacknowledged poll (assumption 28). -/
theorem exec_writeTimeout_tenth (hphase : s.bus.phase = .polling 9 due) :
    exec .writeTimeout s = exec (.ackPoll false) s := by
  refine congrArg (finish s) ?_
  simp only [State.pollTimeout, hphase, Config.pollLimit, Nat.reduceAdd, Nat.lt_irrefl, if_false]

theorem polled_early (h : n < 9) (t : State) :
    t.polled q n due false = { t with bus.phase := .polling (n + 1) (due + 24000) } := by
  have hlimit : n + 1 < Config.pollLimit := Nat.succ_lt_succ h
  exact (if_neg Bool.false_ne_true).trans (if_pos hlimit)

theorem polled_tenth (t : State) : t.polled q 9 due false = t.endWrite q .writeTimeout 10 := rfl

/-! #### Descriptor effects (R58, R60) -/

theorem endWrite_outside (h : 32 ≤ q.addr) (t : State) (r : Result) (polls : Nat) :
    t.endWrite q r polls = t.dequeue.completeAll q.cells r 0 [polls, 0] := by
  rw [State.endWrite, writeEffect_outside h]

theorem endWrite_inside (h : q.addr < 32) (t : State) (r : Result) (polls : Nat) :
    t.endWrite q r polls = (t.dequeue.descriptorEffect q.slot).1.completeAll q.cells r 0
      [polls, (t.dequeue.descriptorEffect q.slot).2] := by
  have ht : q.touchesDescriptor = true := decide_eq_true h
  simp only [State.endWrite, State.writeEffect, ht, if_true]

theorem descriptorEffect_reloads {t : State} {i : Slot} (h : (t.slot i).state = .off ∨ (t.slot i).state = .undescribed) :
    t.descriptorEffect i = (t.queueLoad .reload i [], 1) := by
  rcases h with h | h <;> simp only [State.descriptorEffect, h]

theorem descriptorEffect_stales {t : State} {i : Slot}
    (h : (t.slot i).state.powered = true ∨ (t.slot i).state = .cooling ∨ (t.slot i).state = .fault) :
    t.descriptorEffect i = (t.setStale i true, 2) := by
  unfold State.descriptorEffect
  split
  case h_3 | h_4 | h_5 | h_6 | h_7 | h_8 | h_9 => rfl
  all_goals
    rename_i hs
    simp [hs, SlotState.powered] at h

/-! #### Missing acknowledges (R48, R50, R59) -/

theorem exec_writeNack {point : AckPoint} (hrun : s.running = some q) (hphase : s.bus.phase = .writing)
    (hpoint : point = .deviceAddress ∨ point = .byteAddress) :
    exec (.ackMissing point) s = finish s (s.dequeue.completeAll q.cells .busNack q.addr [0, 0]) := by
  refine congrArg (finish s) ?_
  rcases hpoint with rfl | rfl <;> simp only [State.nack, hrun, hphase, State.writeNack]

theorem exec_dataNack {k : Nat} (hrun : s.running = some q) (hphase : s.bus.phase = .writing) (hk : k < q.len)
    (haddr : 32 ≤ q.addr) : exec (.ackMissing (.dataByte k)) s = finish s
      ({ s.dequeue with bus.recovery := some (q.slot, s.sync.mtick + 240000) }.completeAll q.cells .busNack (q.addr + k)
        [0, 0]) := by
  have hnack : s.nack (.dataByte k) = s.dataNack q k := by simp only [State.nack, hrun, hphase, hk, if_true]
  have hstop : s.dataNack q k = (s.stopWrite q).1.completeAll q.cells .busNack (q.addr + k) [0, 0] := by
    simp only [State.dataNack, State.stopWrite, writeEffect_outside haddr]
  exact congrArg (finish s) (hnack.trans (hstop.trans (by rw [stopWrite_outside haddr])))

theorem exec_readNack {point : AckPoint} (hrun : s.running = some q) (hphase : s.bus.phase = .reading)
    (hkind : q.kind = .read) (hpoint : point = .deviceAddress ∨ point = .byteAddress ∨ point = .readAddress) :
    exec (.ackMissing point) s = finish s (s.dequeue.completeAll q.cells .busNack q.addr []) := by
  have hnack : s.nack point = s.readNack q := by
    rcases hpoint with rfl | rfl | rfl <;> simp only [State.nack, hrun, hphase]
  refine congrArg (finish s) (hnack.trans ?_)
  simp only [State.readNack, isLoad_read hkind, Bool.false_eq_true, if_false]

end

/-- Settles O46. -/
theorem readCompletes : Obligations.ReadCompletes := by
  intro s q rest c bytes hw hphase hstop hq hkind hcells hc hlen
  obtain ⟨t, he, hend, hbus, hcab, hframe⟩ :=
    dequeued_ended hq hcells (exec_readEnd hphase hstop hq hkind hlen) hw hc
  have hbranch : t.branch = none := by rw [State.branch, hbus]; rfl
  exact ⟨t, he, hend, hbus, hbranch, hcab, hframe⟩

section
variable {s : State} {q : BusRequest} {rest : List BusRequest} {c : CellNo} {n : Nat} {due : Stamp}

/-- The end of a write outside the descriptor bytes by one of its polls (R49, R59). -/
theorem pollEnd_outside {r : Result} {polls : Nat} {x : Host.Outcome State Fault Refusal} (hq : s.bus.queue = q :: rest)
    (hcells : q.cells = [c]) (haddr : 32 ≤ q.addr) (hw : s.window.wf = true) (hc : s.cell c = .taken)
    (hx : x = finish s (({ s with sync := s.sync.runOn due } : State).endWrite q r polls)) :
    ∃ t, x = .next t ∧ CompletesCell s t c r 0 [polls, 0] ∧ t.bus = s.bus.without rest ∧ t.sync = s.sync.runOn due ∧
      t = { s with window := t.window, intake := t.intake, pages := t.pages, bus := t.bus, sync := t.sync } := by
  rw [endWrite_outside haddr, completeAll_one hcells, dequeue_polled hq] at hx
  obtain ⟨w, n, p, he, hend, -⟩ := transaction_ended hx hw hc
  exact ⟨_, he, hend, rfl, rfl, rfl⟩

/-- An acknowledged write into the descriptor bytes of an OFF or UNDESCRIBED slot queues its reload (R60). -/
theorem pollEnd_reloads (hq : s.bus.queue = q :: rest) (hcells : q.cells = [c]) (haddr : q.addr < 32)
    (hs : (s.slot q.slot).state = .off ∨ (s.slot q.slot).state = .undescribed) (hw : s.window.wf = true)
    (hc : s.cell c = .taken) {polls : Nat} {x : Host.Outcome State Fault Refusal}
    (hx : x = finish s (({ s with sync := s.sync.runOn due } : State).endWrite q .ok polls)) :
    ∃ t, x = .next t ∧ CompletesCell s t c .ok 0 [polls, 1] ∧
      t.bus = { s.bus with
        queue := rest ++ [⟨.reload, q.slot, 0, 32, [], []⟩], phase := .idle, stopping := false,
        copies := s.bus.copies.set q.slot none } ∧
      t.slots = s.slots.set q.slot { s.slot q.slot with state := .loading } ∧
      t.sync = { s.sync.runOn due with records := s.sync.records.set (.slot q.slot) (SyncRec.blank .empty) } ∧
      t = { s with
        window := t.window, intake := t.intake, pages := t.pages, bus := t.bus, slots := t.slots, sync := t.sync } := by
  let v : State := { s with pages := s.markCabinet.pages, bus := s.bus.without rest, sync := s.sync.runOn due }
  have heffect : v.descriptorEffect q.slot = (v.queueLoad .reload q.slot [], 1) := descriptorEffect_reloads hs
  obtain ⟨pages, hload, hmarks, -, -⟩ := queueLoad_marks v .reload q.slot []
  rw [hload] at heffect hmarks
  rw [endWrite_inside haddr, completeAll_one hcells, dequeue_polled hq, heffect] at hx
  obtain ⟨w, n, p, he, hend, -⟩ := completed_by hx hw hc rfl rfl ((onlyMarks_dequeued s _ _).trans hmarks)
  exact ⟨_, he, hend, rfl, rfl, rfl, rfl⟩

/-- An acknowledged write into the descriptor bytes of a slot in use marks it stale (R60). -/
theorem pollEnd_stales (hq : s.bus.queue = q :: rest) (hcells : q.cells = [c]) (haddr : q.addr < 32)
    (hs : (s.slot q.slot).state.powered = true ∨ (s.slot q.slot).state = .cooling ∨ (s.slot q.slot).state = .fault)
    (hw : s.window.wf = true) (hc : s.cell c = .taken) {polls : Nat} {x : Host.Outcome State Fault Refusal}
    (hx : x = finish s (({ s with sync := s.sync.runOn due } : State).endWrite q .ok polls)) :
    ∃ t, x = .next t ∧ CompletesCell s t c .ok 0 [polls, 2] ∧
      t.bus = { s.bus with
        queue := rest, phase := .idle, stopping := false, stale := s.bus.stale.set q.slot true } ∧
      t.sync = s.sync.runOn due ∧
      t = { s with window := t.window, intake := t.intake, pages := t.pages, bus := t.bus, sync := t.sync } := by
  let v : State := { s with pages := s.markCabinet.pages, bus := s.bus.without rest, sync := s.sync.runOn due }
  have heffect : v.descriptorEffect q.slot = (v.setStale q.slot true, 2) := descriptorEffect_stales hs
  rw [endWrite_inside haddr, completeAll_one hcells, dequeue_polled hq, heffect] at hx
  obtain ⟨w, n, p, he, hend, -⟩ :=
    transaction_ended (b := { s.bus.without rest with stale := s.bus.stale.set q.slot true }) hx hw hc
  exact ⟨_, he, hend, rfl, rfl, rfl⟩

end

/-- Settles O48: the outcomes of a poll outside and inside the descriptor bytes, and the missing acknowledges. -/
theorem writeEnds : Obligations.WriteEnds := by
  intro s q rest c hw hstop hq hcells hc polledAt
  have hbusy (h : s.bus.phase ≠ .idle) : s.running = some q := running_of_busy hstop hq h
  refine ⟨fun haddr n due hphase => ?_, fun haddr n due hphase => ?_, fun hphase => ?_,
    fun hphase hkind point hpoint => ?_⟩
  · have hpoll := exec_ackPoll hstop hq hphase
    refine ⟨pollEnd_outside hq hcells haddr hw hc (hpoll true), fun hn => ?_, ?_⟩
    · have hearly := hpoll false
      rw [polled_early hn] at hearly
      obtain ⟨p, he, hmarks, -⟩ := stepped_by hearly ((OnlyMarks.refl s).congr rfl)
      exact ⟨_, he, rfl, rfl, rfl, hmarks⟩
    · rintro rfl command hcommand
      have htenth : exec command s = exec (.ackPoll false) s := by
        rcases hcommand with rfl | rfl
        · rfl
        · exact exec_writeTimeout_tenth hphase
      exact pollEnd_outside hq hcells haddr hw hc (htenth.trans ((hpoll false).trans (by rw [polled_tenth])))
  · have hpoll := exec_ackPoll hstop hq hphase true
    exact ⟨fun hs => pollEnd_reloads hq hcells haddr hs hw hc hpoll,
      fun hs => pollEnd_stales hq hcells haddr hs hw hc hpoll⟩
  · have hrun := hbusy (by rw [hphase]; exact BusPhase.noConfusion)
    refine ⟨fun point hpoint => ?_, fun k hk haddr => ?_⟩
    · obtain ⟨t, he, hend, hbus, -, hframe⟩ := dequeued_ended hq hcells (exec_writeNack hrun hphase hpoint) hw hc
      exact ⟨t, he, hend, hbus, hframe⟩
    · have hexec := exec_dataNack hrun hphase hk haddr
      rw [completeAll_one hcells, dequeue_head hq] at hexec
      obtain ⟨w, n, p, he, hend, -⟩ := transaction_ended
        (b := { s.bus.without rest with recovery := some (q.slot, s.sync.mtick + 240000) }) hexec hw hc
      exact ⟨_, he, hend, rfl, rfl⟩
  · have hrun := hbusy (by rw [hphase]; exact BusPhase.noConfusion)
    obtain ⟨t, he, hend, hbus, -, hframe⟩ := dequeued_ended hq hcells (exec_readNack hrun hphase hkind hpoint) hw hc
    exact ⟨t, he, hend, hbus, hframe⟩

end Sys2Proof.Machine
end

section
namespace Sys2Proof.Machine

/-! ### A leading edge on a horizontal or composite input (R65, R69, R71) -/

section
variable {r : SyncRec} {lo : Nat} {stamp : Stamp}

/-- An edge is counted from three quarters of the separation period on (R69). -/
theorem counts_iff : r.counts lo stamp = true ↔
    r.lastHsync = none ∨ ∃ h, r.lastHsync = some h ∧ 3 * r.separation lo ≤ (stamp - h).toNat * 64 := by
  unfold SyncRec.counts
  cases r.lastHsync with
  | none => exact iff_of_true rfl (.inl rfl)
  | some h =>
    simp only [reduceCtorEq, false_or, Option.some.injEq, exists_eq_left']
    exact decide_eq_true_iff

theorem isAfter_iff {u : Stamp} : isAfter u stamp = true ↔ stamp ≠ u ∧ (stamp - u).toNat < 0x80000000 :=
  Bool.and_eq_true_iff.trans (and_congr decide_eq_true_iff decide_eq_true_iff)

/-- A counted edge is kept in mind, and adds a line to an open frame that it comes after the start of (R69, R71). -/
theorem hsyncEdge_counted (hcond : r.condition ≠ .empty) (h : r.counts lo stamp = true) :
    r.hsyncEdge lo stamp = { r with
      lastHsync := some stamp,
      lines := if r.condition = .live ∧ r.frameOpen = true ∧ stamp ≠ r.lastVsync ∧
          (stamp - r.lastVsync).toNat < 0x80000000 then min 1023 (r.lines + 1) else r.lines } := by
  have hpassed : ¬ (r.condition = .empty ∨ r.counts lo stamp = false) :=
    not_or.2 ⟨hcond, by rw [h]; decide⟩
  simp only [SyncRec.hsyncEdge, if_neg hpassed, isAfter_iff]

theorem hsyncEdge_ignored (h : r.condition = .empty ∨ ¬ r.counts lo stamp = true) : r.hsyncEdge lo stamp = r :=
  if_pos (h.imp_right Bool.eq_false_iff.2)

end

/-- The edge is measured at the record alone, the counter run on to its stamp (R65, R69). -/
theorem hsyncAt_measured (s : State) (src : Source) (stamp : Stamp) : s.hsyncAt src stamp =
    s.measured src ((s.record src).hsyncEdge (s.windowLow src) stamp) (s.sync.runOn stamp).mtick s.pages := by
  rw [State.hsyncAt, advanceTo_runOn]
  rfl

/-- Settles O49, by whether the record counts the edge. -/
theorem hsyncEdgeCounts : Obligations.HsyncEdgeCounts := by
  intro s src stamp r separation counted
  have hcounts : r.counts (s.windowLow src) stamp = true ↔ counted := counts_iff
  obtain ⟨p, he, hmarks, -⟩ := stepped_by (congrArg (finish s) (hsyncAt_measured s src stamp))
    ((OnlyMarks.refl s).congr rfl)
  refine ⟨_, he, fun hcond h => ?_, fun h => ?_, fun other hne => measured_other s _ _ _ hne, rfl, hmarks⟩
  · exact (measured_record ..).trans (hsyncEdge_counted hcond (hcounts.2 h))
  · exact (measured_record ..).trans (hsyncEdge_ignored (h.imp_right fun hn hc => hn (hcounts.1 hc)))

end Sys2Proof.Machine
end

section
namespace Sys2Proof.Machine

/-! ### Changes of polarity, losses of sync and the RECOVERY of the on-air source (R68, R76, R89, R129, R135, R181) -/

section
variable {s t : State} {src : Source}

/-- A horizontal input's change of polarity, at a record that was not stable, signals nothing (R68, R79). -/
theorem polarityAt_unstable (hstable : (s.record src).stable = false) (hcond : (s.record src).condition = .live) :
    s.polarityAt src .horizontal = { s.setRecord src ((s.record src).flip .horizontal).endRun.closeFrame with
      pins := s.pins.followPolarity src .horizontal ((s.record src).flip .horizontal).endRun.closeFrame } := by
  have hinput : src.hasInput .horizontal = true := by cases src <;> rfl
  have hchange : (s.record src).changePolarity .horizontal = ((s.record src).flip .horizontal).endRun.closeFrame := by
    simp only [SyncRec.changePolarity, hcond, reduceCtorEq, if_false, if_true]
  simp only [State.polarityAt, hinput, if_true, hchange, hstable]
  rfl

/-- With the level forced to 0 the audio crosspoint leaves the source at once (R181). -/
theorem muteAndLeave_eq (s : State) : s.muteAndLeave = { s with
    audio := { s.audio with current := 0, target := 0, wanted := none, crosspoint := none } } :=
  setWanted_none (s := { s with audio.current := 0 }) rfl

/-- A loss start: HOLD at once, nothing on air, no sound and idle pins (R89, R123, R135, R181). -/
theorem lossStart_eq (s : State) : ∃ pages, s.lossStart = { s with
    pages := pages, ho := { s.ho with phase := .waitTarget, onAir := none },
    raster := { s.raster.immediateHold s.sync.mtick with cutArm := none },
    audio := { s.audio with current := 0, target := 0, wanted := none, crosspoint := none },
    router := { s.router with driven := none, entries := [], activePins := 0, chordFreeze := false } } ∧
    OnlyMarks s { s with pages := pages } := by
  let v : State := { s.holdNow with ho.onAir := none, router := s.router.driveNone }
  obtain ⟨pages, hq, hm⟩ := setPhase_eq v .waitTarget
  refine ⟨pages, ?_, OnlyMarks.congr hm (by rfl)⟩
  rw [show s.lossStart = (v.setPhase .waitTarget).muteAndLeave from rfl, hq, muteAndLeave_eq]
  rfl

/-- A loss start in PASS takes the generator to HOLD as R89 says. -/
theorem holdsAtOnce_of_immediate (hmode : s.raster.mode = .pass)
    (h : t.raster = { s.raster.immediateHold s.sync.mtick with cutArm := none }) : HoldsAtOnce s t := by
  have hstart : s.raster.immediateHold s.sync.mtick = s.raster.startHold s.sync.mtick := by
    simp only [Raster.immediateHold, hmode]
  rw [hstart] at h
  refine ⟨by rw [h]; rfl, fun tm hpass => ?_⟩
  rw [h]
  exact startHold_timing s.raster s.sync.mtick tm hpass

/-- A target without stable sync is not ready (R108). -/
theorem judge_unstable (htarget : s.ho.target = some src) (h : (s.record src).stable = false) : s.judge = s := by
  unfold State.judge
  split
  · cases src with
    | menu => simp only [htarget, State.judgeMenu, State.isStable, h, Bool.false_eq_true, if_false]
    | slot i => simp only [htarget, State.isStable, h, Bool.false_eq_true, false_and, if_false]
  · rfl

/-- The RECOVERY of a source that has just lost its sync waits for it (R135). -/
theorem startRecovery_waits (hstable : (s.record src).stable = false) : ∃ pages, s.startRecovery src = { s with
    pages := pages,
    ho := { s.ho with
      phase := .waitTarget, kind := .recovery, onAir := none, outgoing := some src, target := some src,
      active := none, frames := 0, rough := false, carry := 0, cancelled := false,
      cutFeed := (s.recordFeed src).ho.outgoingFeed, outgoingFeed := (s.recordFeed src).ho.outgoingFeed },
    raster := { s.raster.immediateHold s.sync.mtick with cutArm := none },
    audio := { s.audio with current := 0, target := 0, wanted := none, crosspoint := none },
    router := { s.router with driven := none, entries := [], activePins := 0, chordFreeze := false },
    credit := (s.recordFeed src).credit } ∧ OnlyMarks s { s with pages := pages } := by
  obtain ⟨pages, hq, hm⟩ := lossStart_eq (s.recordFeed src)
  have hpages : (s.recordFeed src).pages = s.pages := by cases src <;> rfl
  refine ⟨pages, ?_, ((OnlyMarks.refl s).congr hpages).trans hm⟩
  rw [State.startRecovery, hq]
  refine (judge_unstable (src := src) rfl ?_).trans ?_
  · cases src <;> exact hstable
  · cases src <;> rfl

/-- Slot `k` once `src` has lost its sync: LOST with its grace started where it is that slot and was RUNNING or ON_AIR
(R129). -/
def State.slotAfterLoss (s : State) (src : Source) (k : Slot) : SlotRec :=
  if src = .slot k ∧ ((s.slot k).state = .running ∨ (s.slot k).state = .onAir) then
    { s.slot k with state := .lost, grace := some (s.figure k Descriptor.grace * 10) }
  else s.slot k

theorem enterLost_loses {i : Slot} (h : (s.slot i).state = .running ∨ (s.slot i).state = .onAir) :
    s.enterLost i = s.modSlot i fun r => { r with state := .lost, grace := some (s.figure i Descriptor.grace * 10) } := by
  rcases h with h | h <;> simp only [State.enterLost, h]

theorem enterLost_same {i : Slot} (h : ¬ ((s.slot i).state = .running ∨ (s.slot i).state = .onAir)) :
    s.enterLost i = s := by
  unfold State.enterLost
  split
  · next hs => exact absurd (.inl hs) h
  · next hs => exact absurd (.inr hs) h
  · rfl

/-- NO_SYNC changes the slots alone (R129). -/
theorem slotEvent_noSync (s : State) (src : Source) : ∃ l : PerSlot SlotRec,
    s.slotEvent src .noSync = { s with slots := l } ∧ ∀ k, l.get k = s.slotAfterLoss src k := by
  cases src with
  | menu => exact ⟨s.slots, rfl, fun k => (if_neg fun h => Source.noConfusion h.1).symm⟩
  | slot i =>
    by_cases h : (s.slot i).state = .running ∨ (s.slot i).state = .onAir
    · refine ⟨_, enterLost_loses h, fun k => (PerSlot.get_set ..).trans ?_⟩
      by_cases hk : k = i
      · subst hk
        exact (if_pos rfl).trans (if_pos ⟨rfl, h⟩).symm
      · exact (if_neg hk).trans (if_neg fun hc => hk (Source.slot.inj hc.1).symm).symm
    · exact ⟨s.slots, enterLost_same h, fun k => (if_neg fun ⟨hk, hs⟩ => h (Source.slot.inj hk ▸ hs)).symm⟩

/-- The record SILENT, its page marked, and the slots as NO_SYNC leaves them (R76, R80, R129). -/
def State.silenced (s : State) (src : Source) (l : PerSlot SlotRec) : State :=
  { (s.setRecord src (s.record src).loseSync).markSource src with slots := l }

/-- A LIVE record that loses its sync: the slot manager acts, then the controller (R76, R79). -/
theorem lossOf_live (hcond : (s.record src).condition = .live) : ∃ l : PerSlot SlotRec,
    s.lossOf src = (s.silenced src l).controllerLoses src true ∧ ∀ k, l.get k = s.slotAfterLoss src k := by
  obtain ⟨l, hl, hslots⟩ := slotEvent_noSync ((s.setRecord src (s.record src).loseSync).markSource src) src
  refine ⟨l, ?_, hslots⟩
  rw [State.lossOf, if_pos hcond]
  exact congrArg (State.controllerLoses · src true) hl

theorem silenced_record (s : State) (src : Source) (l : PerSlot SlotRec) :
    (s.silenced src l).record src = (s.record src).loseSync := PerSource.get_set_same ..

theorem silenced_other (s : State) (l : PerSlot SlotRec) {other : Source} (h : other ≠ src) :
    (s.silenced src l).record other = s.record other := (PerSource.get_set ..).trans (if_neg h)

/-- The controller in QUIET hears the loss of the on-air source alone (R135). -/
theorem controllerLoses_quiet (hphase : s.ho.phase = .quiet) (b : Bool) :
    s.controllerLoses src b = if s.ho.onAir = some src then s.startRecovery src else s := by
  simp only [State.controllerLoses, hphase]

end

/-- Settles O51: a change of polarity stays with its input, and a loss goes on to the slot and, from the air, to the
controller. -/
theorem polarityAndLoss : Obligations.PolarityAndLoss := by
  intro s hphase _
  refine ⟨fun src hcond hstable => ?_, fun src command hcommand hcond => ?_⟩
  · obtain ⟨p, he, hmarks, -⟩ := stepped_by (congrArg (finish s) (polarityAt_unstable hstable hcond))
      ((OnlyMarks.refl s).congr rfl)
    exact ⟨_, he, PerSource.get_set_same .., fun other hne => (PerSource.get_set ..).trans (if_neg hne),
      fun other hne => (PerSource.get_set ..).trans (if_neg hne), rfl, rfl, hmarks⟩
  · have hexec : exec command s = finish s (s.lossOf src) := by
      rcases hcommand with rfl | rfl <;> rfl
    obtain ⟨l, hloss, hslots⟩ := lossOf_live hcond
    rw [controllerLoses_quiet (s := s.silenced src l) hphase true] at hloss
    have hmarked : OnlyMarks s (s.silenced src l) := (OnlyMarks.refl s).mark (.source src)
    have hmark : ((s.silenced src l).pages.get (.source src)).mark = true := markSource_mark (s.setRecord src _) src
    have hother : ∀ other, other ≠ src → (s.silenced src l).record other = s.record other :=
      fun other hne => silenced_other s l hne
    by_cases hair : s.ho.onAir = some src
    · have hsilent : ((s.silenced src l).record src).stable = false := by rw [silenced_record]; rfl
      obtain ⟨pages, hrecovery, hm⟩ := startRecovery_waits hsilent
      have hdone := hexec.trans (congrArg (finish s) (hloss.trans ((if_pos hair).trans hrecovery)))
      obtain ⟨p, he, hmarks, hkeep⟩ := stepped_by hdone (OnlyMarks.congr (hmarked.trans hm) (by rfl))
      refine ⟨_, he, silenced_record s src l, hother, hkeep _ ((hm _).2 hmark), hmarks, hslots,
        fun hoff => absurd hair hoff, fun _ hmode => ⟨?_, holdsAtOnce_of_immediate hmode rfl, rfl, rfl, ?_, rfl⟩⟩
      · cases src <;> rfl
      · cases src <;> rfl
    · have hdone := hexec.trans (congrArg (finish s) (hloss.trans (if_neg hair)))
      obtain ⟨p, he, hmarks, hkeep⟩ := stepped_by hdone hmarked
      exact ⟨_, he, silenced_record s src l, hother, hkeep _ hmark, hmarks, hslots, fun _ => rfl,
        fun hon => absurd hon hair⟩

end Sys2Proof.Machine
end

section
namespace Sys2Proof.Machine

/-! ### What a hand-over rests on, and its moves (R82, R97, R100, R105, R106, R123, R149, R176) -/

/-- The parts of the state that `AirSound` and `PhaseSound` speak of. -/
structure Stand where
  phase : Phase
  onAir : Option Source
  outgoing : Option Source
  target : Option Source
  busy : Bool
  armed : Bool
  ordered : Bool
  timed : Bool
  driven : Option Slot
  mode : GenMode
  crosspoint : Option Source
  wanted : Option Source

def State.stand (s : State) : Stand where
  phase := s.ho.phase
  onAir := s.ho.onAir
  outgoing := s.ho.outgoing
  target := s.ho.target
  busy := s.ho.active.isSome
  armed := s.raster.cutArm.isSome
  ordered := s.raster.releaseOrder.isSome
  timed := s.ho.releaseTimer.isSome
  driven := s.router.driven
  mode := s.raster.mode
  crosspoint := s.raster.crosspoint
  wanted := s.audio.wanted

/-- `AirSound`, read off the stand. -/
structure Stand.Aired (p : Stand) : Prop where
  mode : p.mode = .pass ↔ p.onAir.isSome = true
  video : p.crosspoint = p.onAir
  audio : p.wanted = p.onAir

/-- `PhaseSound`, read off the stand. -/
structure Stand.Phased (p : Stand) : Prop where
  settled : p.phase ≠ .prepare
  quiet : p.phase = .quiet → p.outgoing = none ∧ p.target = none ∧ p.busy = false
  leaving : p.phase.beforeRelease = true → p.outgoing = p.onAir ∧ p.onAir.isSome = true ∧ p.target.isSome = true
  held : p.phase.beforeCut = true → p.onAir = none ∧ p.target.isSome = true
  entering : p.phase = .fadeIn → p.onAir.isSome = true
  armed : p.armed = true → p.phase = .align
  ordered : p.ordered = true → p.phase = .release
  timed : p.timed = true → p.phase = .release
  driven : ∀ i, p.driven = some i → p.onAir = some (.slot i)

theorem airSound_iff (s : State) : AirSound s ↔ s.stand.Aired :=
  ⟨fun h => ⟨h.mode, h.video, h.audio⟩, fun h => ⟨h.mode, h.video, h.audio⟩⟩

theorem phaseSound_iff (s : State) : PhaseSound s ↔ s.stand.Phased := by
  have hbusy : s.stand.busy = false ↔ s.ho.active = none := Option.isSome_eq_false_iff.trans Option.isNone_iff_eq_none
  constructor
  · exact fun h => ⟨h.settled, fun hq => (h.quiet hq).imp_right fun x => x.imp_right hbusy.2, h.leaving, h.held,
      h.entering, h.armed, h.ordered, h.timed, h.driven⟩
  · exact fun h => ⟨h.settled, fun hq => (h.quiet hq).imp_right fun x => x.imp_right hbusy.1, h.leaving, h.held,
      h.entering, h.armed, h.ordered, h.timed, h.driven⟩

/-- No hand-over is in flight, the checks of a SWITCH apart (R100, R102). -/
def Stand.AtRest (p : Stand) : Prop := p.phase = .quiet ∨ p.phase = .prepare

/-- A hand-over is under way and not yet over its cut (section 6.1). -/
def Phase.underWay (p : Phase) : Prop := p.beforeRelease = true ∨ p.beforeCut = true

/-- What one move of the controller can do to the stand, whatever state it finds: each says in which phase it is made, and
names all that it changes. -/
inductive Move : Stand → Stand → Prop
  /-- The active job completes (R113, R119). -/
  | answer (p : Stand) : Move p { p with busy := false }
  /-- A job takes the hand-over in flight over (R114). -/
  | adopt (p : Stand) (h : p.phase.underWay) : Move p { p with busy := true }
  /-- The hand-over in flight gets another target (R114, R118, R121). -/
  | aim (p : Stand) (x : Source) (h : p.phase.underWay) : Move p { p with target := some x }
  /-- The phase changes between release and cut (R108 to R111). -/
  | turn (p : Stand) (q : Phase) (h : p.phase.beforeCut = true) (hq : q.beforeCut = true) :
      Move p { p with phase := q, armed := decide (q = .align) && p.armed }
  /-- A frame end in ALIGN arms the cut or does not (R94, R96). -/
  | arm (p : Stand) (b : Bool) (h : p.phase = .align) : Move p { p with armed := b }
  /-- The checks of a SWITCH end where they began (R102, R103). -/
  | stay (p : Stand) (h : p.AtRest) : Move p { p with phase := .quiet, armed := false }
  /-- A hand-over starts with nothing on air (R104). -/
  | await (p : Stand) (x : Source) (b : Bool) (h : p.AtRest) (hair : p.onAir = none) :
      Move p { p with phase := .waitTarget, outgoing := none, target := some x, busy := b, armed := false }
  /-- A hand-over starts from the source on air (R105). -/
  | leave (p : Stand) (src x : Source) (b : Bool) (h : p.AtRest) (hair : p.onAir = some src) :
      Move p { p with phase := .fadeOut, outgoing := some src, target := some x, busy := b, armed := false, driven := none }
  /-- FADE_OUT ends in a release order (R105). -/
  | order (p : Stand) (b : Bool) (h : p.phase = .fadeOut) :
      Move p { p with phase := .release, armed := false, timed := true, ordered := b }
  /-- The outgoing is released (R88, R89, R106, R107). -/
  | release (p : Stand) (x : Option Source) (h : p.phase.beforeRelease = true ∨ p.ordered = true)
      (hx : x = none ∨ p.mode = .hold ∧ x = p.crosspoint) :
      Move p { p with phase := .waitTarget, onAir := none, armed := false, timed := false, ordered := false, driven := none,
                      mode := .hold, crosspoint := x, wanted := none }
  /-- The source on air is lost (R123, R135). -/
  | lose (p : Stand) (src x : Source) (y : Option Source) (h : p.AtRest)
      (hy : y = none ∨ p.mode = .hold ∧ y = p.crosspoint) :
      Move p { p with phase := .waitTarget, onAir := none, outgoing := some src, target := some x, busy := false,
                      armed := false, ordered := false, driven := none, mode := .hold, crosspoint := y, wanted := none }
  /-- The cabinet is given back to the outgoing (R115). -/
  | giveBack (p : Stand) (src : Source) (d : Option Slot) (hout : p.outgoing = some src)
      (h : p.phase.beforeRelease = true ∨ p.phase.beforeCut = true ∧ p.onAir.isSome = true)
      (hd : ∀ i, d = some i → src = .slot i) :
      Move p { p with phase := .fadeIn, outgoing := none, target := some src, armed := false, ordered := false,
                      timed := false, driven := d }
  /-- The cut puts a source on air (R96, R112). -/
  | cut (p : Stand) (src : Source) (d : Option Slot) (h : p.armed = true) (hd : ∀ i, d = some i → src = .slot i) :
      Move p { p with phase := .fadeIn, onAir := some src, armed := false, driven := d, mode := .pass,
                      crosspoint := some src, wanted := some src }
  /-- FADE_IN is over, its job completed (R100, R113). -/
  | rest (p : Stand) (h : p.phase = .fadeIn) (hb : p.busy = false) :
      Move p { p with phase := .quiet, outgoing := none, target := none, armed := false, timed := false }
  /-- The slot that was driven is gone (R149). -/
  | undrive (p : Stand) : Move p { p with driven := none }
  /-- Power-on reset (R100). -/
  | reset (p : Stand) : Move p State.reset.stand

/-- A move keeps the generator, the crosspoint and the sound with the source on air (R82, R176). -/
theorem Stand.Aired.move {p q : Stand} (h : p.Aired) (m : Move p q) : q.Aired := by
  have held (x : Option Source) (hx : x = none ∨ p.mode = .hold ∧ x = p.crosspoint) : x = none := by
    obtain rfl | ⟨hm, rfl⟩ := hx
    · rfl
    · have hair : p.onAir.isSome ≠ true := fun hs => by simp [h.mode.2 hs] at hm
      simpa [h.video] using hair
  cases m with
  | release x _ hx | lose _ _ x _ hx => exact ⟨by simp, held x hx, rfl⟩
  | cut => exact ⟨by simp, rfl, rfl⟩
  | reset => exact (airSound_iff _).1 resetMeetsInvariants.2.2.2.1
  | _ => exact ⟨h.mode, h.video, h.audio⟩

section
variable {p q : Stand}

theorem Stand.Phased.unarmed (h : p.Phased) (hp : p.phase ≠ .align) : p.armed = false :=
  Bool.eq_false_iff.2 fun ha => hp (h.armed ha)

theorem Stand.Phased.unordered (h : p.Phased) (hp : p.phase ≠ .release) : p.ordered = false :=
  Bool.eq_false_iff.2 fun ho => hp (h.ordered ho)

theorem Stand.Phased.untimed (h : p.Phased) (hp : p.phase ≠ .release) : p.timed = false :=
  Bool.eq_false_iff.2 fun ht => hp (h.timed ht)

/-- Between the commands no checks are in progress. -/
theorem Stand.Phased.atRest (h : p.Phased) (hr : p.AtRest) : p.phase = .quiet := hr.resolve_right h.settled

/-- Nothing on air leaves no slot driven. -/
theorem Stand.Phased.undriven (h : p.Phased) (hair : p.onAir = none) : p.driven = none :=
  Option.eq_none_iff_forall_not_mem.2 fun i hi => by
    have := h.driven i hi
    rw [hair] at this
    cases this

/-- What the stand holds in QUIET. -/
theorem Stand.phased_quiet (hp : p.phase = .quiet) (hout : p.outgoing = none) (htarget : p.target = none)
    (hbusy : p.busy = false) (harm : p.armed = false) (horder : p.ordered = false) (htime : p.timed = false)
    (hd : ∀ i, p.driven = some i → p.onAir = some (.slot i)) : p.Phased where
  settled := by simp [hp]
  quiet _ := ⟨hout, htarget, hbusy⟩
  leaving := by simp [hp, Phase.beforeRelease]
  held := by simp [hp, Phase.beforeCut]
  entering := by simp [hp]
  armed := by simp [harm]
  ordered := by simp [horder]
  timed := by simp [htime]
  driven := hd

/-- What the stand holds before release. -/
theorem Stand.phased_leaving (hp : p.phase = .fadeOut ∨ p.phase = .release) (hout : p.outgoing = p.onAir)
    (hair : p.onAir.isSome = true) (htarget : p.target.isSome = true) (harm : p.armed = false)
    (horder : p.ordered = true → p.phase = .release) (htime : p.timed = true → p.phase = .release)
    (hd : ∀ i, p.driven = some i → p.onAir = some (.slot i)) : p.Phased where
  settled := by obtain hp | hp := hp <;> simp [hp]
  quiet := by obtain hp | hp := hp <;> simp [hp]
  leaving _ := ⟨hout, hair, htarget⟩
  held := by obtain hp | hp := hp <;> simp [hp, Phase.beforeCut]
  entering _ := hair
  armed := by simp [harm]
  ordered := horder
  timed := htime
  driven := hd

/-- What the stand holds between release and cut. -/
theorem Stand.phased_held (hp : p.phase.beforeCut = true) (hair : p.onAir = none) (htarget : p.target.isSome = true)
    (harm : p.armed = true → p.phase = .align) (horder : p.ordered = false) (htime : p.timed = false)
    (hd : p.driven = none) : p.Phased where
  settled h := by simp [h, Phase.beforeCut] at hp
  quiet h := by simp [h, Phase.beforeCut] at hp
  leaving h := by cases e : p.phase <;> simp [e, Phase.beforeRelease, Phase.beforeCut] at h hp
  held _ := ⟨hair, htarget⟩
  entering h := by simp [h, Phase.beforeCut] at hp
  armed := harm
  ordered := by simp [horder]
  timed := by simp [htime]
  driven := by simp [hd]

/-- What the stand holds in FADE_IN. -/
theorem Stand.phased_fadeIn (hp : p.phase = .fadeIn) (hair : p.onAir.isSome = true) (harm : p.armed = false)
    (horder : p.ordered = false) (htime : p.timed = false)
    (hd : ∀ i, p.driven = some i → p.onAir = some (.slot i)) : p.Phased where
  settled := by simp [hp]
  quiet := by simp [hp]
  leaving := by simp [hp, Phase.beforeRelease]
  held := by simp [hp, Phase.beforeCut]
  entering _ := hair
  armed := by simp [harm]
  ordered := by simp [horder]
  timed := by simp [htime]
  driven := hd

theorem Phase.not_quiet {p : Phase} (h : p.underWay) : p ≠ .quiet := by
  rintro rfl
  obtain h | h := h <;> cases h

theorem Phase.not_release {p : Phase} (h : p.beforeCut = true) : p ≠ .release := by
  rintro rfl
  cases h

/-- A move keeps what each phase holds: it is made in the phase that it names, where the phase's own claim gives what the
next phase's asks for. -/
theorem Stand.Phased.move (h : p.Phased) (m : Move p q) : q.Phased := by
  cases m with
  | answer => exact { h with quiet := fun hq => ⟨(h.quiet hq).1, (h.quiet hq).2.1, rfl⟩ }
  | adopt hp => exact { h with quiet := fun hq => absurd hq (Phase.not_quiet hp) }
  | aim x hp =>
    exact { h with
      quiet := fun hq => absurd hq (Phase.not_quiet hp)
      leaving := fun hl => (h.leaving hl).imp_right fun a => ⟨a.1, rfl⟩
      held := fun hc => ⟨(h.held hc).1, rfl⟩ }
  | turn q hp hq =>
    obtain ⟨hair, htarget⟩ := h.held hp
    exact Stand.phased_held hq hair htarget (fun ha => of_decide_eq_true (Bool.and_eq_true_iff.1 ha).1)
      (h.unordered (Phase.not_release hp)) (h.untimed (Phase.not_release hp)) (h.undriven hair)
  | arm b hp => exact { h with armed := fun _ => hp }
  | stay hr =>
    have hq := h.atRest hr
    obtain ⟨hout, htarget, hbusy⟩ := h.quiet hq
    exact Stand.phased_quiet rfl hout htarget hbusy rfl (h.unordered (by simp [hq])) (h.untimed (by simp [hq])) h.driven
  | await x b hr hair =>
    have hq := h.atRest hr
    exact Stand.phased_held rfl hair rfl (by simp) (h.unordered (by simp [hq])) (h.untimed (by simp [hq]))
      (h.undriven hair)
  | leave src x b hr hair =>
    have hq := h.atRest hr
    exact Stand.phased_leaving (.inl rfl) hair.symm (by simp [hair]) rfl rfl
      (fun ho => by simp [h.unordered, hq] at ho) (fun ht => by simp [h.untimed, hq] at ht) (by simp)
  | order b hp =>
    obtain ⟨hout, hair, htarget⟩ := h.leaving (by rw [hp]; rfl)
    exact Stand.phased_leaving (.inr rfl) hout hair htarget rfl (fun _ => rfl) (fun _ => rfl) h.driven
  | release x hp =>
    have hleaving : p.phase.beforeRelease = true := hp.elim id fun ho => by rw [h.ordered ho]; rfl
    exact Stand.phased_held rfl rfl (h.leaving hleaving).2.2 (by simp) rfl rfl rfl
  | lose src x y hr =>
    exact Stand.phased_held rfl rfl rfl (by simp) rfl (h.untimed (by simp [h.atRest hr])) rfl
  | giveBack src d hout hp hd =>
    have hair : p.onAir = some src := by
      obtain hp | ⟨hc, hs⟩ := hp
      · exact (h.leaving hp).1.symm.trans hout
      · simp [(h.held hc).1] at hs
    exact Stand.phased_fadeIn rfl (by simp [hair]) rfl rfl rfl fun i hi => hair.trans (congrArg some (hd i hi))
  | cut src d ha hd =>
    have hp := h.armed ha
    exact Stand.phased_fadeIn rfl rfl rfl (h.unordered (by simp [hp])) (h.untimed (by simp [hp]))
      fun i hi => congrArg some (hd i hi)
  | rest hp hb =>
    exact Stand.phased_quiet rfl rfl rfl hb rfl (h.unordered (by simp [hp])) rfl h.driven
  | undrive => exact { h with driven := by simp }
  | reset => exact (phaseSound_iff _).1 resetMeetsInvariants.2.2.2.2.2
end

/-! ### Commands that change the stand by moves alone -/

/-- From `s` to `t` the stand changes by moves of the controller alone. -/
def Follows (s t : State) : Prop := Relation.ReflTransGen Move s.stand t.stand

section
variable {s t u : State}

theorem Follows.of_stand (e : t.stand = s.stand) : Follows s t := by
  rw [Follows, e]

theorem Follows.refl (s : State) : Follows s s := .of_stand rfl

theorem Follows.move {p : Stand} (m : Move s.stand p) (e : t.stand = p) : Follows s t := by
  rw [Follows, e]
  exact .single m

theorem Follows.trans (h : Follows s t) (k : Follows t u) : Follows s u := Relation.ReflTransGen.trans h k

theorem Follows.frame (h : Follows s t) (e : u.stand = t.stand) : Follows s u := h.trans (.of_stand e)

/-- A state that stands as `s` does is followed as `s` is. -/
theorem Follows.after (h : Follows t u) (e : t.stand = s.stand) : Follows s u := (Follows.of_stand e).trans h

/-- Either branch of a choice follows. -/
theorem Follows.ite {c : Prop} [Decidable c] (h : Follows s t) (k : Follows s u) : Follows s (if c then t else u) := by
  split
  · exact h
  · exact k

theorem AirSound.follows (h : AirSound s) (k : Follows s t) : AirSound t := by
  rw [airSound_iff] at h ⊢
  exact Relation.ReflTransGen.head_induction_on (motive := fun p _ => p.Aired → t.stand.Aired) k id
    (fun m _ ih hp => ih (hp.move m)) h

theorem PhaseSound.follows (h : PhaseSound s) (k : Follows s t) : PhaseSound t := by
  rw [phaseSound_iff] at h ⊢
  exact Relation.ReflTransGen.head_induction_on (motive := fun p _ => p.Phased → t.stand.Phased) k id
    (fun m _ ih hp => ih (hp.move m)) h

/-! #### Operations that leave the stand alone -/

theorem complete_stand (s : State) (c : CellNo) (r : Result) (d : Nat) (l : List Nat) :
    (s.complete c r d l).stand = s.stand := by
  rw [complete_frame]
  rfl

theorem completeAll_stand (s : State) (cells : List CellNo) (r : Result) (d : Nat) (l : List Nat) :
    (s.completeAll cells r d l).stand = s.stand := by
  rw [completeAll_frame]
  rfl

theorem crossover_stand (s : State) : s.crossover.stand = s.stand := by
  unfold State.crossover
  split <;> rfl

theorem recomputeAudio_stand (s : State) : s.recomputeAudio.stand = s.stand := crossover_stand _

theorem setWanted_stand (s : State) (src : Option Source) :
    (s.setWanted src).stand = { s.stand with wanted := src } := recomputeAudio_stand _

theorem muteAndLeave_stand (s : State) : s.muteAndLeave.stand = { s.stand with wanted := none } := recomputeAudio_stand _

theorem setRatio_stand (s : State) (src : Source) (r : Nat) : (s.setRatio src r).stand = s.stand := by
  unfold State.setRatio
  extract_lets
  split
  · exact recomputeAudio_stand _
  · rfl

theorem routeUnit_stand (s : State) : s.routeUnit.stand = s.stand := by
  unfold State.routeUnit
  split <;> rfl

theorem coinUnits_stand (n : Nat) (s : State) : (s.coinUnits n).stand = s.stand := by
  induction n generalizing s with
  | zero => rfl
  | succ n ih => exact (ih _).trans (routeUnit_stand _)

theorem sampleCoin_stand (s : State) (l : CoinLine) (b : Bool) : (s.sampleCoin l b).stand = s.stand := by
  cases l <;> rfl

theorem advanceTo_stand (s : State) (t : Stamp) : (s.advanceTo t).stand = s.stand := by
  obtain h | h := advanceTo_cases s t <;> rw [h]; rfl

theorem requestNewRun_stand (s : State) (i : Slot) : (s.requestNewRun i).stand = s.stand := by
  unfold State.requestNewRun
  extract_lets
  split <;> rfl

theorem reloadRestarts_stand (s : State) (i : Slot) : (s.reloadRestarts i).stand = s.stand := by
  unfold State.reloadRestarts
  split <;> rfl

theorem powerSlot_stand (s : State) (i : Slot) (vs : List Slot) : (s.powerSlot i vs).stand = s.stand := by
  rw [powerSlot_eq]
  rfl

/-- A power-up request is the slot manager's own affair (R27). -/
theorem request_stand (s : State) (i : Slot) (q : Requester) : (s.request i q).2.stand = s.stand := by
  unfold State.request
  split
  case h_1 =>
    split
    · rfl
    · exact (powerSlot_stand ..).trans (reloadRestarts_stand ..)
  case h_3 => split <;> rfl
  case h_2 | h_4 | h_5 | h_6 | h_7 | h_8 => exact reloadRestarts_stand ..
  all_goals rfl

theorem withdrawTarget_stand (s : State) : s.withdrawTarget.stand = s.stand := by
  rw [withdrawTarget_eq]
  rfl

theorem answerJob_stand (s : State) (i : Slot) (p : Option PowerUp) (r : Result) (d : Nat) (mask : Word) :
    (s.answerJob i p r d mask).stand = s.stand := by
  unfold State.answerJob
  split
  · exact complete_stand ..
  · rfl

theorem reachOff_stand (s : State) (i : Slot) : (s.reachOff i).stand = s.stand := by
  unfold State.reachOff
  split <;> rfl

theorem enterLost_stand (s : State) (i : Slot) : (s.enterLost i).stand = s.stand := by
  unfold State.enterLost
  split <;> rfl

theorem slotStable_stand (s : State) (i : Slot) : (s.slotStable i).stand = s.stand := by
  unfold State.slotStable
  split
  · exact answerJob_stand ..
  all_goals rfl

theorem releaseOutgoing_stand (s : State) : s.releaseOutgoing.stand = s.stand := by
  unfold State.releaseOutgoing
  split
  · rw [releaseSlot_slots]
    rfl
  · rfl

theorem writeEffect_stand (s : State) (q : BusRequest) : (s.writeEffect q).1.stand = s.stand := by
  unfold State.writeEffect State.descriptorEffect
  split
  · split <;> rfl
  · rfl

theorem stopWrite_stand (s : State) (q : BusRequest) : (s.stopWrite q).1.stand = s.stand := writeEffect_stand ..

theorem recordFeed_stand (s : State) (src : Source) : (s.recordFeed src).stand = s.stand := by cases src <;> rfl

theorem applyPin_stand (s : State) (j : SwitchJob) : (s.applyPin j).stand = s.stand := by
  rw [applyPin_slots]
  rfl

theorem makeWait_stand (s : State) (j : SwitchJob) : (s.makeWait j).stand = s.stand := by
  unfold State.makeWait
  split
  · exact complete_stand ..
  · rfl

theorem completeAtChecks_stand (s : State) (j : SwitchJob) (v : Verdict) : (s.completeAtChecks j v).stand = s.stand := by
  unfold State.completeAtChecks
  split
  · exact complete_stand ..
  · exact (complete_stand ..).trans (applyPin_stand ..)
  · rfl

/-- The checks of a SWITCH leave the hand-over as it is (R103, R114). -/
theorem prepare_stand (s : State) (j : SwitchJob) : (s.prepare j).2.stand = s.stand := by
  unfold State.prepare State.prepareSlot
  split
  · split <;> rfl
  · split
    · rfl
    · split
      case h_1 | h_2 => split <;> rfl
      case h_4 | h_5 | h_6 | h_7 | h_8 => exact request_stand ..
      all_goals rfl

theorem endRestart_stand (s : State) : s.endRestart.stand = s.stand := rfl

end
end Sys2Proof.Machine
end

section
namespace Sys2Proof.Machine

/-! ### The moves of the hand-over controller -/

section
variable {s t : State}

theorem setPhase_stand (s : State) (q : Phase) : (s.setPhase q).stand =
    { s.stand with phase := q, armed := decide (q = .align) && s.raster.cutArm.isSome } := by
  unfold State.setPhase
  cases q <;> split <;> rfl

theorem completeActive_stand (s : State) (r : Result) (d : Nat) (data : SwitchJob → List Nat) :
    (s.completeActive r d data).stand = { s.stand with busy := false } := by
  unfold State.completeActive
  split
  case h_1 => rw [complete_frame]; rfl
  case h_2 h => exact congrArg (fun a : Option SwitchJob => { s.stand with busy := a.isSome }) h

theorem completeActive_follows (s : State) (r : Result) (d : Nat) (data : SwitchJob → List Nat) :
    Follows s (s.completeActive r d data) := .move (.answer _) (completeActive_stand ..)

theorem completeActiveOk_stand (s : State) : s.completeActiveOk.stand = { s.stand with busy := false } := by
  unfold State.completeActiveOk
  split <;> exact completeActive_stand ..

/-- The phase changes between release and cut. -/
theorem setPhase_turns (h : s.ho.phase.beforeCut = true) {q : Phase} (hq : q.beforeCut = true) :
    Follows s (s.setPhase q) := .move (.turn _ q h hq) (setPhase_stand s q)

theorem setPhase_phase (s : State) (q : Phase) : (s.setPhase q).ho.phase = q := congrArg Stand.phase (setPhase_stand s q)

theorem judgeMenu_follows (h : s.ho.phase.beforeCut = true) : Follows s s.judgeMenu := by
  unfold State.judgeMenu
  split
  · exact setPhase_turns h rfl
  · exact .refl s

/-- Source 0 becomes the target between release and cut (R121). -/
theorem fallback_follows (h : s.ho.phase.beforeCut = true) (reason : FailReason) : Follows s (s.fallback reason) := by
  let u : State := { s with
    ho.kind := .fallback, ho.target := some .menu, ho.lastFallback := reason, ho.cutFeed := false, ho.carry := 0,
    ho.active := none }
  have hu : Follows s u := .trans (t := { s with ho.target := some .menu }) (.move (.aim _ .menu (.inr h)) rfl)
    (.move (.answer _) rfl)
  have ht : Follows u (u.setPhase .waitTarget) := setPhase_turns (s := u) h rfl
  exact (hu.trans ht).trans (judgeMenu_follows (by rw [setPhase_phase]; rfl))

theorem withdrawTarget_phase (s : State) : s.withdrawTarget.ho.phase = s.ho.phase :=
  congrArg Stand.phase (withdrawTarget_stand s)

theorem completeActive_phase (s : State) (r : Result) (d : Nat) (data : SwitchJob → List Nat) :
    (s.completeActive r d data).ho.phase = s.ho.phase := congrArg Stand.phase (completeActive_stand s r d data)

theorem withdrawTarget_fallback (h : s.ho.phase.beforeCut = true) (reason : FailReason) :
    Follows s (s.withdrawTarget.fallback reason) :=
  (fallback_follows (by rwa [withdrawTarget_phase]) reason).after (withdrawTarget_stand s)

theorem failToFallback_follows (h : s.ho.phase.beforeCut = true) (reason : FailReason) :
    Follows s (s.failToFallback reason) :=
  (completeActive_follows ..).trans (withdrawTarget_fallback (by rwa [completeActive_phase]) reason)

theorem judge_follows (s : State) : Follows s s.judge := by
  unfold State.judge
  split
  case isTrue h =>
    have hc : s.ho.phase.beforeCut = true := by rw [h]; rfl
    split
    · exact judgeMenu_follows hc
    · split
      · split
        · exact setPhase_turns hc rfl
        · exact failToFallback_follows hc _
      · exact .refl s
    · exact .refl s
  case isFalse => exact .refl s

/-- Readiness is judged at once in WAIT_TARGET (R108, R111). -/
theorem waitTarget_judged (h : s.ho.phase.beforeCut = true) : Follows s (s.setPhase .waitTarget).judge :=
  (setPhase_turns h rfl).trans (judge_follows _)

/-! #### Leaving the air -/

/-- The generator's immediate start of HOLD (R89): the selection is left, or was left before. -/
theorem holdNow_stand (s : State) : ∃ x, (x = none ∨ s.stand.mode = .hold ∧ x = s.stand.crosspoint) ∧
    s.holdNow.stand = { s.stand with mode := .hold, crosspoint := x, ordered := false } := by
  unfold State.holdNow Raster.immediateHold
  split
  case h_1 => exact ⟨none, .inl rfl, rfl⟩
  case h_2 h =>
    exact ⟨s.raster.crosspoint, .inr ⟨h, rfl⟩,
      congrArg (fun m => { s.stand with mode := m, ordered := false }) h⟩

/-- The stand once a release has been handled, its target still to be judged (R106). -/
theorem releaseHandled_follows {p : Stand} {x : Option Source}
    (h : p.phase.beforeRelease = true ∨ p.ordered = true) (hx : x = none ∨ p.mode = .hold ∧ x = p.crosspoint)
    (hs : s.stand = p) (ht : t.stand = { p with mode := .hold, crosspoint := x, ordered := false }) :
    Follows s t.releaseHandled := by
  let u : State := { t with ho.onAir := none, ho.releaseTimer := none, router := t.router.driveNone }
  have hu : ((u.releaseOutgoing.setPhase .waitTarget).setWanted none).stand =
      { t.stand with phase := .waitTarget, onAir := none, armed := false, timed := false, driven := none, wanted := none } := by
    rw [setWanted_stand, setPhase_stand, releaseOutgoing_stand]
    rfl
  subst hs
  exact (Follows.move (.release _ x h hx) (hu.trans (by rw [ht]))).trans (judge_follows _)

theorem outgoingFailure_follows (h : s.ho.phase.beforeRelease = true) : Follows s s.outgoingFailure := by
  obtain ⟨x, hx, hs⟩ := holdNow_stand s
  exact releaseHandled_follows (.inl h) hx rfl (t := { s.holdNow with audio.current := 0 }) hs

theorem releaseTimeout_follows (s : State) : Follows s s.releaseTimeout := by
  unfold State.releaseTimeout
  split
  case isTrue h =>
    obtain ⟨x, hx, hs⟩ := holdNow_stand s
    exact releaseHandled_follows (.inl (by rw [State.stand, h]; rfl)) hx rfl hs
  case isFalse => exact .refl s

theorem lossStart_stand (s : State) : ∃ x, (x = none ∨ s.stand.mode = .hold ∧ x = s.stand.crosspoint) ∧
    s.lossStart.stand = { s.stand with
      phase := .waitTarget, onAir := none, armed := false, ordered := false, driven := none, mode := .hold,
      crosspoint := x, wanted := none } := by
  obtain ⟨x, hx, hs⟩ := holdNow_stand s
  refine ⟨x, hx, ?_⟩
  unfold State.lossStart
  extract_lets u
  rw [muteAndLeave_stand, setPhase_stand]
  exact congrArg (fun p : Stand => { p with
    phase := .waitTarget, onAir := none, armed := false, driven := none, wanted := none }) hs

theorem startRecovery_follows (h : s.stand.AtRest) (src : Source) : Follows s (s.startRecovery src) := by
  obtain ⟨x, hx, hs⟩ := lossStart_stand (s.recordFeed src)
  rw [recordFeed_stand] at hx hs
  refine Follows.trans (Follows.move (.lose _ src src x h hx) ?_) (judge_follows _)
  exact congrArg (fun p : Stand => { p with outgoing := some src, target := some src, busy := false }) hs

theorem lossFallback_follows (h : s.stand.AtRest) (i : Slot) (reason : FailReason) :
    Follows s (s.lossFallback i reason) := by
  obtain ⟨x, hx, hs⟩ := lossStart_stand (s.leaveAir i)
  refine Follows.trans (Follows.move (.lose _ (.slot i) .menu x h hx) ?_) (judge_follows _)
  exact congrArg (fun p : Stand => { p with outgoing := some (.slot i), target := some .menu, busy := false }) hs

/-! #### The return to QUIET, and the announcements of the level -/

theorem toQuiet_stand (s : State) : s.toQuiet.stand =
    { s.stand with phase := .quiet, outgoing := none, target := none, armed := false, timed := false } :=
  setPhase_stand _ .quiet

/-- FADE_IN is over, its job completed as it stands (R113). -/
theorem quiet_follows (h : s.ho.phase = .fadeIn) : Follows s s.completeActiveOk.toQuiet := by
  have hok : Follows s s.completeActiveOk := .move (.answer _) (completeActiveOk_stand s)
  have hp : s.completeActiveOk.stand.phase = .fadeIn := by rw [completeActiveOk_stand]; exact h
  have hb : s.completeActiveOk.stand.busy = false := by rw [completeActiveOk_stand]
  exact hok.trans (.move (.rest _ hp hb) (toQuiet_stand _))

theorem toQuiet_atRest (s : State) : s.toQuiet.stand.AtRest := .inl (congrArg Stand.phase (toQuiet_stand s))

theorem fadeInEnd_follows (h : s.ho.phase = .fadeIn) : Follows s s.fadeInEnd := by
  have hq := quiet_follows h
  unfold State.fadeInEnd State.returnToQuiet
  split
  · exact hq.trans (startRecovery_follows (toQuiet_atRest _) _)
  · exact hq

theorem enterRelease_follows (h : s.ho.phase = .fadeOut) : Follows s s.enterRelease := by
  refine .move (.order _ (if s.raster.mode = GenMode.pass then s.ho.outgoing else s.raster.releaseOrder).isSome h) ?_
  unfold State.enterRelease
  exact congrArg (fun p : Stand => { p with
    timed := true, ordered := (if s.raster.mode = GenMode.pass then s.ho.outgoing else s.raster.releaseOrder).isSome })
    (setPhase_stand s .release)

theorem levelAnnounced_follows (s : State) : Follows s s.levelAnnounced := by
  unfold State.levelAnnounced
  split
  case isTrue =>
    split
    case h_1 h =>
      split
      · exact enterRelease_follows h
      · exact .refl s
    case h_2 h => exact fadeInEnd_follows h
    case h_3 => exact .refl s
  case isFalse => exact .refl s

/-- A hand-over starts from the source on air: `t` is `s` with its new target and job, before FADE_OUT (R104, R105, R122). -/
theorem enterFadeOut_follows {src x : Source} {q : Phase} {a b : Bool} (h : s.stand.AtRest)
    (hair : s.ho.onAir = some src)
    (ht : t.stand = { s.stand with phase := q, target := some x, busy := b, armed := a }) :
    Follows s (t.enterFadeOut src) := by
  refine Follows.trans (Follows.move (.leave _ src x b h hair) ?_) (levelAnnounced_follows _)
  rw [recomputeAudio_stand]
  have hs : ((t.setPhase .fadeOut).recordFeed src).stand = { t.stand with phase := .fadeOut, armed := false } := by
    rw [recordFeed_stand, setPhase_stand]
    rfl
  rw [ht] at hs
  exact congrArg (fun p : Stand => { p with outgoing := some src, driven := none }) hs

theorem chordFallback_follows {i : Slot} (h : s.ho.phase = .quiet) (hair : s.ho.onAir = some (.slot i)) :
    Follows s (s.chordFallback i) :=
  enterFadeOut_follows (x := .menu) (.inl h) hair rfl

/-! #### The cancel and the failures of a target -/

/-- Which slot the router drives for a source (R149). -/
theorem driveSource_driven (src : Source) (r : Router) : ∀ i, (r.driveSource src).driven = some i → src = .slot i := by
  intro i h
  cases src with
  | menu => cases h
  | slot k => exact congrArg Source.slot (Option.some.inj h)

theorem cancel_follows (h : s.ho.phase.beforeRelease = true ∨ s.ho.phase.beforeCut = true ∧ s.ho.onAir.isSome = true) :
    Follows s s.cancel := by
  unfold State.cancel
  split
  case h_1 => exact .refl s
  case h_2 src hout =>
    extract_lets t _ _ u
    refine Follows.trans (Follows.move (.giveBack _ src (t.router.driveSource src).driven hout h
      (driveSource_driven src _)) ?_) (levelAnnounced_follows _)
    have hr : ((u.setPhase .fadeIn).reopenFeed src).stand = (u.setPhase .fadeIn).stand := by rw [reopenFeed_eq]; rfl
    rw [recomputeAudio_stand, hr, setPhase_stand]
    exact congrArg (fun p : Stand => { p with
      phase := .fadeIn, outgoing := none, target := some src, armed := false, ordered := false, timed := false,
      driven := (t.router.driveSource src).driven }) (withdrawTarget_stand s)

theorem targetFailure_follows (s : State) (reason : FailReason) : Follows s (s.targetFailure reason) := by
  unfold State.targetFailure
  split
  case isTrue h => exact (completeActive_follows ..).trans (cancel_follows (.inl (by rwa [completeActive_phase])))
  case isFalse =>
    split
    case isTrue h => exact failToFallback_follows h reason
    case isFalse => exact .refl s

theorem pendingFailed_follows (s : State) (r : Result) (d : Nat) (reason : FailReason) :
    Follows s (s.pendingFailed r d reason) := (completeActive_follows ..).trans (targetFailure_follows ..)

/-! #### A SWITCH and an ABORT -/

/-- A passing job starts a hand-over (R104): `s` is the state before its checks. -/
theorem startHandOver_follows (h : s.stand.AtRest) (ht : t.stand = { s.stand with phase := .prepare, armed := false })
    (j : SwitchJob) (cold : Bool) (mask : Word) : Follows s (t.startHandOver j cold mask) := by
  have hair : t.ho.onAir = s.ho.onAir := congrArg Stand.onAir ht
  unfold State.startHandOver
  extract_lets u
  split
  case h_1 src hsrc =>
    refine enterFadeOut_follows (x := j.target) (q := .prepare) (a := false) (b := true) h (hair.symm.trans hsrc) ?_
    exact congrArg (fun p : Stand => { p with target := some j.target, busy := true }) ht
  case h_2 hnone =>
    refine Follows.trans (Follows.move (.await _ j.target true h (hair.symm.trans hnone)) ?_) (judge_follows _)
    rw [setPhase_stand]
    exact congrArg (fun p : Stand => { p with
      phase := .waitTarget, outgoing := none, target := some j.target, busy := true, armed := false }) ht

theorem switchInQuiet_follows (h : s.stand.AtRest) (j : SwitchJob) : Follows s (s.switchInQuiet j) := by
  have hv : ((s.setPhase .prepare).prepare j).2.stand = { s.stand with phase := .prepare, armed := false } :=
    (prepare_stand ..).trans (setPhase_stand s .prepare)
  have hstay (v : Verdict) :
      Follows s ((((s.setPhase .prepare).prepare j).2.completeAtChecks j v).setPhase .quiet) := by
    refine .move (.stay _ h) ?_
    rw [setPhase_stand]
    exact congrArg (fun p : Stand => { p with phase := .quiet, armed := false }) ((completeAtChecks_stand ..).trans hv)
  unfold State.switchInQuiet
  extract_lets v
  split
  · exact startHandOver_follows h ((applyPin_stand ..).trans hv) ..
  · exact hstay _
  · exact hstay _

theorem retargetTo_follows (h : s.ho.phase.underWay) (target : Source) : Follows s (s.retargetTo target) := by
  unfold State.retargetTo
  extract_lets _ _ t
  have ht : Follows s t :=
    .move (.aim _ target h) (congrArg (fun p : Stand => { p with target := some target }) (withdrawTarget_stand s))
  have hp : t.ho.phase = s.ho.phase := withdrawTarget_phase s
  split
  case isTrue => exact ht
  case isFalse hb => exact ht.trans (waitTarget_judged (by rw [hp] at hb ⊢; exact h.resolve_left hb))

theorem replaceActive_follows (h : s.ho.phase.underWay) (j : SwitchJob) (cold : Bool) (mask : Word) :
    Follows s (s.replaceActive j cold mask) := by
  unfold State.replaceActive
  extract_lets t
  have hp : t.ho.phase = s.ho.phase := completeActive_phase ..
  have ht : Follows s t := by
    refine (completeActive_follows s .superseded 0 s.switchData).trans (.move (.adopt _ ?_) rfl)
    rw [completeActive_stand]
    exact h
  rw [← hp] at h
  split
  case isTrue hair =>
    refine ht.trans (cancel_follows (h.imp_right fun hc => ⟨hc, ?_⟩))
    rw [hair]
    rfl
  case isFalse =>
    split
    · exact ht
    · exact ht.trans (retargetTo_follows h _)

theorem switchInFlight_follows (h : s.ho.phase.underWay) (j : SwitchJob) : Follows s (s.switchInFlight j) := by
  unfold State.switchInFlight
  extract_lets v
  split
  case h_1 cold mask _ =>
    have hs : (v.2.applyPin j).stand = s.stand := (applyPin_stand ..).trans (prepare_stand ..)
    have hp : (v.2.applyPin j).ho.phase = s.ho.phase := congrArg Stand.phase hs
    exact (replaceActive_follows (by rwa [hp]) j cold mask).after hs
  all_goals exact .of_stand ((completeAtChecks_stand ..).trans (prepare_stand ..))

theorem takeSwitch_follows (s : State) (j : SwitchJob) : Follows s (s.takeSwitch j) := by
  unfold State.takeSwitch
  split
  case h_1 h => exact switchInQuiet_follows (.inl h) j
  case h_2 h => exact switchInQuiet_follows (.inr h) j
  case h_3 => exact .of_stand (makeWait_stand ..)
  case h_4 h | h_5 h => exact switchInFlight_follows (.inl (by rw [h]; rfl)) j
  case h_6 h | h_7 h | h_8 h => exact switchInFlight_follows (.inr (by rw [h]; rfl)) j

theorem takeUpWaiting_follows (s : State) : Follows s s.takeUpWaiting := by
  unfold State.takeUpWaiting
  split
  · exact (takeSwitch_follows _ _).after rfl
  · exact .refl s

theorem levelReached_follows (s : State) : Follows s s.levelReached := by
  unfold State.levelReached
  split
  · exact (levelAnnounced_follows s).trans (takeUpWaiting_follows _)
  · exact levelAnnounced_follows s

theorem ratioAnnounced_follows (s : State) (src : Source) : Follows s (s.ratioAnnounced src) := by
  unfold State.ratioAnnounced
  split
  · exact levelReached_follows s
  · exact .refl s

theorem backToOutgoing_follows (h : s.ho.phase.beforeCut = true) (src : Source) : Follows s (s.backToOutgoing src) := by
  unfold State.backToOutgoing
  extract_lets t
  have ht : t.stand = s.stand := by
    unfold t
    split
    · rfl
    · exact withdrawTarget_stand s
  have hp : t.ho.phase = s.ho.phase := congrArg Stand.phase ht
  rw [← hp] at h
  exact Follows.after (.trans (.move (.aim _ src (.inr h)) rfl) (waitTarget_judged (by exact h))) ht

theorem chooseAnew_follows (h : s.ho.phase.beforeCut = true) : Follows s s.chooseAnew := by
  unfold State.chooseAnew
  split
  · split
    · exact backToOutgoing_follows h _
    · exact withdrawTarget_fallback h _
  · exact withdrawTarget_fallback h _

/-! #### Events of the on-air source, the outgoing and the target; findings and the cut -/

/-- A failure during FADE_IN (R113): the phase becomes QUIET, and what is then done starts from there. -/
theorem failInFadeIn_follows (h : s.ho.phase = .fadeIn) {handle : State → State}
    (hh : ∀ u, u.stand.AtRest → Follows u (handle u)) : Follows s (s.failInFadeIn handle) :=
  ((quiet_follows h).trans (hh _ (toQuiet_atRest _))).trans (takeUpWaiting_follows _)

theorem controllerLoses_follows (s : State) (src : Source) (noSync : Bool) :
    Follows s (s.controllerLoses src noSync) := by
  unfold State.controllerLoses
  split
  case h_1 h => exact .ite (startRecovery_follows (.inl h) src) (.refl s)
  case h_2 h => exact .ite (startRecovery_follows (.inr h) src) (.refl s)
  case h_3 h => exact .ite (failInFadeIn_follows h fun u hu => startRecovery_follows hu src) (.refl s)
  case h_4 h | h_5 h => exact .ite (outgoingFailure_follows (by rw [h]; rfl)) (.refl s)
  case h_6 h | h_7 h => exact .ite (waitTarget_judged (by rw [h]; rfl)) (.refl s)
  case h_8 => exact .refl s

theorem controllerSlotFails_follows (s : State) (i : Slot) (reason : FailReason) :
    Follows s (s.controllerSlotFails i reason) := by
  unfold State.controllerSlotFails
  split
  case h_1 h => exact .ite (lossFallback_follows (.inl h) i reason) (.refl s)
  case h_2 h => exact .ite (lossFallback_follows (.inr h) i reason) (.refl s)
  case h_3 h => exact .ite (failInFadeIn_follows h fun u hu => lossFallback_follows hu i reason) (.refl s)
  case h_4 h | h_5 h =>
    exact .ite (outgoingFailure_follows (by rw [h]; rfl)) (.ite (targetFailure_follows s reason) (.refl s))
  all_goals exact .ite (targetFailure_follows s reason) (.refl s)

theorem controllerExpiry_follows (s : State) (i : Slot) (reason : FailReason) :
    Follows s (s.controllerExpiry i reason) := by
  unfold State.controllerExpiry
  split
  case h_1 h | h_2 h =>
    exact .ite (outgoingFailure_follows (by rw [h]; rfl)) (.ite (targetFailure_follows s reason) (.refl s))
  case h_3 | h_4 | h_5 => exact .ite (targetFailure_follows s reason) (.refl s)
  all_goals exact .refl s

theorem onFinding_follows (s : State) (f : Finding) : Follows s (s.onFinding f) := by
  unfold State.onFinding
  split
  case h_3 =>
    split
    case isTrue h => exact setPhase_turns (by rw [h]; rfl) rfl
    case isFalse => exact .refl s
  case h_5 =>
    split
    · exact targetFailure_follows s _
    · exact .refl s
  all_goals exact .of_stand rfl

theorem cutCredited_stand (s : State) (src : Source) : ((s.cutSource src).cutCredit src).stand = s.stand := by
  cases src with
  | menu => rfl
  | slot i =>
    have hcut : (s.cutSlot i).stand = s.stand := by
      unfold State.cutSlot
      split <;> rfl
    exact hcut

/-- The cut, the generator's part made (R96, R112): `s` is the state before it. -/
theorem cutHandled_follows (src : Source) (harm : s.stand.armed = true)
    (ht : t.stand = { s.stand with mode := .pass, crosspoint := some src, armed := false }) (rough : Bool) :
    Follows s (t.cutHandled src rough) := by
  unfold State.cutHandled
  extract_lets _ u
  have hu : u.stand = { t.stand with onAir := some src } := cutCredited_stand ..
  refine Follows.trans (Follows.move (.cut _ src (u.router.driveSource src).driven harm (driveSource_driven src _)) ?_)
    (levelReached_follows _)
  rw [setWanted_stand, setPhase_stand]
  rw [ht] at hu
  exact congrArg (fun p : Stand => { p with
    phase := .fadeIn, armed := false, driven := (u.router.driveSource src).driven, wanted := some src }) hu

theorem restartHandOver_follows (s : State) : Follows s s.restartHandOver := by
  unfold State.restartHandOver
  extract_lets _ t
  have ht : Follows s t := .move (.answer _) rfl
  split
  case h_1 h _ | h_2 h _ | h_3 h _ => exact ht.trans (cancel_follows (.inl (by rw [h]; rfl)))
  case h_4 h _ | h_5 h _ | h_6 h _ => exact ht.trans (withdrawTarget_fallback (by rw [h]; rfl) _)
  case h_7 => exact ht

end
end Sys2Proof.Machine
end

section
namespace Sys2Proof.Machine

/-! ### The moves made by the commands -/

section
variable {s t : State}

theorem foldl_stand {α : Type} {f : State → α → State} (hf : ∀ u a, (f u a).stand = u.stand) (l : List α) (u : State) :
    (l.foldl f u).stand = u.stand := by
  induction l generalizing u with
  | nil => rfl
  | cons a l ih => exact (ih _).trans (hf u a)

/-! #### The host's writes and the soft restart -/

theorem writePost_stand (s : State) (v : Word) : (s.writePost v).stand = s.stand :=
  (foldl_stand (f := fun u c => u.intakeFault c s.postFault) (fun _ _ => rfl) _ _).trans
    (foldl_stand (f := State.postCell) (fun _ _ => rfl) _ s)

theorem writeDone_stand (s : State) (v : Word) : (s.writeDone v).stand = s.stand := by
  refine foldl_stand (fun u c => ?_) _ _
  unfold State.returnCell
  split <;> rfl

theorem restartBus_stand (s : State) : s.restartBus.stand = s.stand := by
  unfold State.restartBus
  split
  · rfl
  · split
    · rfl
    · extract_lets
      split
      · split
        · rfl
        · exact stopWrite_stand ..
      all_goals rfl

theorem writeControl_follows (s : State) (v : Word) : Follows s (s.writeControl v) := by
  unfold State.writeControl State.startRestart
  refine .ite ?_ (.refl s)
  extract_lets t u
  have hu : Follows s u := by
    refine ((restartHandOver_follows t.dropPowerJobs).after ?_).frame (restartBus_stand _)
    rw [dropPowerJobs_eq]
    rfl
  exact .ite hu (hu.frame (endRestart_stand u))

theorem writeRegister_follows (s : State) (r : Register) (v : Word) : Follows s (s.writeRegister r v) := by
  cases r with
  | post => exact .of_stand (writePost_stand s v)
  | done => exact .of_stand (writeDone_stand s v)
  | control => exact writeControl_follows s v
  | notice | noticeMask | ident => exact .of_stand rfl

theorem writeAt_follows (s : State) (addr : BitVec 13) (v : Word) : Follows s (s.writeAt addr v) := by
  unfold State.writeAt
  split
  · exact writeRegister_follows ..
  · exact .of_stand rfl

theorem stopPolling_stand (s : State) (q : BusRequest) (n : Nat) (a : Bool) : (s.stopPolling q n a).stand = s.stand := by
  unfold State.stopPolling
  split
  · exact writeEffect_stand ..
  · exact stopWrite_stand ..

theorem busStopped_stand (s : State) (b : Bool) : (s.busStopped b).stand = s.stand := by
  have ht : (s.stopTransaction b).stand = s.stand := by
    unfold State.stopTransaction
    split
    · rfl
    · split
      · exact stopPolling_stand ..
      all_goals
        split
        · exact stopWrite_stand ..
        · rfl
  unfold State.busStopped
  split
  · rw [endRestart_stand]
    split
    · exact ht
    · rfl
  · rfl

theorem pageStart_stand (s : State) (id : PageId) : (s.pageStart id).stand = s.stand := by
  unfold State.pageStart
  extract_lets
  split
  · cases id <;> rfl
  · rfl

theorem pageEnd_stand (s : State) (id : PageId) : (s.pageEnd id).stand = s.stand := by
  unfold State.pageEnd
  extract_lets
  split <;> rfl

/-! #### The slots -/

theorem presence_stand (s : State) (i : Slot) : (s.presence i).stand = s.stand := by
  unfold State.presence
  split <;> rfl

theorem removeBus_stand (s : State) (i : Slot) : (s.removeBus i).stand = s.stand := by
  unfold State.removeBus
  extract_lets _ t
  have ht : t.stand = s.stand := completeAll_stand ..
  split
  · exact ht
  · exact ht

/-- A removed slot is driven no more (R149). -/
theorem removeRouter_follows (s : State) (i : Slot) : Follows s (s.removeRouter i) := by
  unfold State.removeRouter
  extract_lets t r
  have ht : t.stand = s.stand := by
    unfold t
    split
    · exact complete_stand ..
    · rfl
  split
  · exact .move (.undrive _) (congrArg (fun p : Stand => { p with driven := none }) ht)
  · exact .of_stand ht

theorem removeSlot_follows (s : State) (i : Slot) : Follows s (s.removeSlot i) := by
  unfold State.removeSlot
  refine .ite (.refl s) ?_
  extract_lets t
  have ht : Follows s ((t.removeBus i).emptyRecord i |>.removeCredit i) :=
    .of_stand ((removeBus_stand t i).trans (answerJob_stand ..))
  exact (ht.trans (removeRouter_follows _ i)).trans (controllerSlotFails_follows ..)

theorem overcurrent_follows (s : State) (i : Slot) : Follows s (s.overcurrent i) := by
  unfold State.overcurrent
  refine .ite ?_ (.refl s)
  exact (controllerSlotFails_follows _ i _).after (answerJob_stand (s.faultSlot i) i _ _ _ _)

theorem settled_stand (s : State) (i : Slot) : (s.settled i).stand = s.stand := by
  unfold State.settled
  split
  · exact requestNewRun_stand ..
  · rfl

theorem startFailed_follows (s : State) (i : Slot) : Follows s (s.startFailed i) := by
  unfold State.startFailed
  refine .ite ?_ (.refl s)
  exact ((controllerExpiry_follows (s.setReason i .startTimeout) i _).after rfl).frame (answerJob_stand ..)

theorem graceOver_follows (s : State) (i : Slot) : Follows s (s.graceOver i) := by
  unfold State.graceOver
  refine .ite ?_ (.refl s)
  exact ((controllerExpiry_follows (s.setReason i .lost) i _).after rfl).frame rfl

theorem failPending_follows (s : State) (i : Slot) (p : PowerUp) (r : Result) (d : Nat) (reason : FailReason) :
    Follows s (s.failPending i p r d reason) := by
  unfold State.failPending
  extract_lets t
  have ht : t.stand = s.stand := answerJob_stand ..
  exact .ite ((pendingFailed_follows ..).after ht) (.of_stand ht)

theorem checkPending_follows (s : State) (i : Slot) : Follows s (s.checkPending i) := by
  unfold State.checkPending
  split
  · exact .refl s
  · split
    · have hm (u : State) (p : PowerUp) (mask : Word) : (u.reportMask i p mask).stand = u.stand := by
        unfold State.reportMask
        split <;> rfl
      exact .of_stand ((hm ..).trans (powerSlot_stand ..))
    · refine (failPending_follows ..).after ?_
      split <;> rfl

theorem cooled_follows (s : State) (i : Slot) : Follows s (s.cooled i) := by
  unfold State.cooled
  refine .ite ?_ (.refl s)
  have hr := reachOff_stand s i
  exact .ite ((checkPending_follows _ i).after hr) (.of_stand hr)

/-! #### The adapter bus -/

theorem startRequest_stand (s : State) : s.startRequest.stand = s.stand := by
  unfold State.startRequest
  split <;> rfl

theorem loaded_follows (s : State) (i : Slot) (d : Descriptor) (cells : List CellNo) :
    Follows s (s.loaded i d cells) := by
  unfold State.loaded
  extract_lets t u
  have hu : (u.completeAll cells .ok 0 [d.title, d.drawClass]).stand = s.stand :=
    (completeAll_stand ..).trans (setRatio_stand ..)
  exact ((checkPending_follows _ i).after hu).trans (ratioAnnounced_follows ..)

theorem loadFailed_follows (s : State) (i : Slot) (u : Undescribed) (cells : List CellNo) :
    Follows s (s.loadFailed i u cells) := by
  unfold State.loadFailed
  extract_lets t
  have ht : t.stand = s.stand := completeAll_stand ..
  split
  · exact (failPending_follows ..).after ht
  · exact .of_stand ht

theorem readDone_follows (s : State) (q : BusRequest) (bytes : List Byte) : Follows s (s.readDone q bytes) := by
  unfold State.readDone
  split
  · split
    · exact (loadFailed_follows s.dequeue ..).after rfl
    · exact (loaded_follows s.dequeue ..).after rfl
  · exact .of_stand (completeAll_stand ..)

theorem endRead_follows (s : State) (bytes : List Byte) : Follows s (s.endRead bytes) := by
  unfold State.endRead
  split
  · exact .ite (readDone_follows ..) (.refl s)
  · exact .refl s

theorem dataStop_stand (s : State) : s.dataStop.stand = s.stand := by
  unfold State.dataStop
  split <;> rfl

theorem endWrite_stand (s : State) (q : BusRequest) (r : Result) (n : Nat) : (s.endWrite q r n).stand = s.stand :=
  (completeAll_stand ..).trans (writeEffect_stand ..)

theorem polled_stand (s : State) (q : BusRequest) (n : Nat) (due : Stamp) (a : Bool) :
    (s.polled q n due a).stand = s.stand := by
  unfold State.polled
  split
  · exact endWrite_stand ..
  · split
    · rfl
    · exact endWrite_stand ..

theorem polledAtRestart_stand (s : State) (q : BusRequest) (n : Nat) (a : Bool) :
    (s.polledAtRestart q n a).stand = s.stand := by
  unfold State.polledAtRestart
  split <;> exact stopPolling_stand ..

theorem poll_stand (s : State) (a : Bool) : (s.poll a).stand = s.stand := by
  unfold State.poll
  split
  · split
    · exact (polledAtRestart_stand ..).trans (advanceTo_stand ..)
    · exact (polled_stand ..).trans (advanceTo_stand ..)
  · rfl

theorem pollTimeout_stand (s : State) : s.pollTimeout.stand = s.stand := by
  unfold State.pollTimeout
  split
  · split
    · rfl
    · exact poll_stand ..
  all_goals rfl

theorem readNack_follows (s : State) (q : BusRequest) : Follows s (s.readNack q) :=
  .ite ((loadFailed_follows s.dequeue ..).after rfl) (.of_stand (completeAll_stand ..))

theorem nack_follows (s : State) (point : AckPoint) : Follows s (s.nack point) := by
  unfold State.nack
  split
  case h_1 | h_2 | h_3 => exact readNack_follows ..
  case h_4 | h_5 => exact .of_stand (completeAll_stand ..)
  case h_6 => exact .ite (.of_stand ((completeAll_stand ..).trans (stopWrite_stand ..))) (.refl s)
  case h_7 => exact .refl s

theorem recovered_stand (s : State) : s.recovered.stand = s.stand := by
  unfold State.recovered
  split
  · exact advanceTo_stand ..
  · rfl

/-! #### The jobs -/

theorem takeIf_follows {due : Job → Bool} {act : Job → State → State} (hact : ∀ j u, Follows u (act j u)) (s : State) :
    Follows s (s.takeIf due act) := by
  unfold State.takeIf
  split
  · exact .refl s
  · exact .ite ((hact ..).after rfl) (.refl s)

/-- A job whose owner leaves the stand alone. -/
theorem takeIf_stands {due : Job → Bool} {act : Job → State → State} (hact : ∀ j u, (act j u).stand = u.stand)
    (s : State) : Follows s (s.takeIf due act) := takeIf_follows (fun j u => .of_stand (hact j u)) s

theorem powerJob_stand {act : Slot → Job → State → State} (hact : ∀ i j u, (act i j u).stand = u.stand) (j : Job)
    (s : State) : (powerJob act j s).stand = s.stand := by
  unfold powerJob
  split
  · exact complete_stand ..
  · split
    · exact complete_stand ..
    · exact hact ..

theorem supersede_stand (s : State) (i : Slot) : (s.supersede i).stand = s.stand := by
  unfold State.supersede
  split
  · exact complete_stand ..
  · rfl

theorem powerOff_stand (i : Slot) (j : Job) (s : State) : (s.powerOff i j).stand = s.stand := by
  unfold State.powerOff State.offByState
  split
  · exact complete_stand ..
  · split
    case h_1 | h_2 | h_3 | h_4 | h_5 | h_6 | h_7 => exact (complete_stand ..).trans (supersede_stand ..)
    case h_8 => exact (complete_stand ..).trans (reachOff_stand ..)
    all_goals exact complete_stand ..

theorem powerRequest_stand (s : State) (i : Slot) (j : Job) : (s.powerRequest i j).stand = s.stand := by
  have ha (u : State) (a : Answer) : (u.answerPower i j.cell a).stand = u.stand := by
    unfold State.answerPower
    split
    case h_6 => rfl
    all_goals exact complete_stand ..
  exact (ha ..).trans (request_stand ..)

theorem powerOn_stand (i : Slot) (j : Job) (s : State) : (s.powerOn i j).stand = s.stand := by
  unfold State.powerOn
  split
  · exact complete_stand ..
  · exact powerRequest_stand ..

theorem cycleThrough_stand (s : State) (i : Slot) (j : Job) : (s.cycleThrough i j).stand = s.stand :=
  reloadRestarts_stand ..

theorem powerCycle_stand (i : Slot) (j : Job) (s : State) : (s.powerCycle i j).stand = s.stand := by
  have hsup : ((s.supersede i).cycleThrough i j).stand = s.stand := (cycleThrough_stand ..).trans (supersede_stand ..)
  unfold State.powerCycle State.cycleByState
  split
  · exact complete_stand ..
  · split
    case h_1 | h_2 | h_3 | h_4 | h_5 => exact (cycleThrough_stand ..).trans (supersede_stand ..)
    case h_6 => exact hsup
    case h_7 =>
      split
      · exact hsup
      · exact complete_stand ..
    case h_8 => exact cycleThrough_stand ..
    case h_9 => exact powerRequest_stand ..
    all_goals exact complete_stand ..

theorem setPin_stand (b : Bool) (i : Slot) (j : Job) (s : State) : (s.setPin b i j).stand = s.stand := by
  unfold State.setPin
  split <;> exact complete_stand ..

theorem supplyJob_stand (j : Job) (s : State) : (supplyJob j s).stand = s.stand := by
  unfold supplyJob
  extract_lets
  split <;> exact complete_stand ..

theorem reloadJob_stand (j : Job) (s : State) : (reloadJob j s).stand = s.stand := by
  unfold reloadJob
  split
  · exact complete_stand ..
  · split
    case h_1 | h_2 | h_3 => rfl
    all_goals exact complete_stand ..

theorem eepromChecks_stand {lengthOk : Nat → Nat → Bool} {act : Slot → Job → State → State}
    (hact : ∀ i j u, (act i j u).stand = u.stand) (j : Job) (s : State) :
    (eepromChecks lengthOk act j s).stand = s.stand := by
  unfold eepromChecks
  split
  · exact complete_stand ..
  · repeat' split
    any_goals exact complete_stand ..
    exact hact ..

theorem queueWrite_stand (i : Slot) (j : Job) (s : State) : (queueWrite i j s).stand = s.stand := by
  unfold queueWrite
  split
  · exact complete_stand ..
  · rfl

/-- A map is installed under the slot that is driven, or under another (R147). -/
theorem installMap_driven (i : Slot) (m : ControlMap) (r : Router) : (r.installMap i m).driven = r.driven := by
  unfold Router.installMap
  extract_lets
  split <;> rfl

theorem judgeMap_stand (s : State) (i : Slot) (c : CellNo) : (s.judgeMap i c).stand = s.stand := by
  unfold State.judgeMap
  split
  · exact complete_stand ..
  · unfold State.acceptMap
    split
    · unfold State.supersedeMap
      split
      · exact complete_stand ..
      · rfl
    · exact (complete_stand ..).trans
        (congrArg (fun d => { s.stand with driven := d }) (installMap_driven i _ s.router))

theorem loadMapJob_stand (j : Job) (s : State) : (loadMapJob j s).stand = s.stand := by
  unfold loadMapJob
  split
  · exact complete_stand ..
  · split
    case h_1 | h_2 | h_3 => exact complete_stand ..
    all_goals exact judgeMap_stand ..

theorem creditJob_stand {act : Job → State → State} (hact : ∀ j u, (act j u).stand = u.stand) (j : Job) (s : State) :
    (creditJob act j s).stand = s.stand := by
  unfold creditJob
  split
  · exact complete_stand ..
  · exact hact j s

theorem amountJob_stand {act : Job → State → State} (hact : ∀ j u, (act j u).stand = u.stand) (j : Job) (s : State) :
    (amountJob act j s).stand = s.stand := by
  unfold amountJob
  split
  · exact complete_stand ..
  · exact hact j s

theorem grantJob_stand (j : Job) (s : State) : (grantJob j s).stand = s.stand := complete_stand ..

theorem withdrawCredit_stand (j : Job) (s : State) : (withdrawCredit j s).stand = s.stand := complete_stand ..

theorem deliverJob_stand (j : Job) (s : State) : (deliverJob j s).stand = s.stand := by
  unfold deliverJob
  split
  · split <;> exact complete_stand ..
  all_goals exact complete_stand ..

theorem recallJob_stand (j : Job) (s : State) : (recallJob j s).stand = s.stand := by
  unfold recallJob
  split <;> exact complete_stand ..

theorem coinJob_stand (j : Job) (s : State) : (coinJob j s).stand = s.stand := by
  unfold coinJob
  split <;> exact complete_stand ..

theorem setItem_stand (s : State) (item : Nat) (src : Source) (v : Nat) : (s.setItem item src v).stand = s.stand := by
  unfold State.setItem
  repeat' split
  all_goals rfl

theorem setLevel_follows (s : State) (c : CellNo) (item : Nat) (src : Source) (v : Nat) :
    Follows s (s.setLevel c item src v) := by
  unfold State.setLevel
  extract_lets v moves t u
  have hu : u.stand = s.stand := by
    refine (complete_stand ..).trans ?_
    unfold t
    split
    · exact (recomputeAudio_stand _).trans (setItem_stand ..)
    · exact setItem_stand ..
  exact .ite ((levelReached_follows u).after hu) (.of_stand hu)

theorem levelsJob_follows (j : Job) (s : State) : Follows s (levelsJob j s) := by
  unfold levelsJob
  refine .ite (.of_stand (complete_stand ..)) ?_
  split
  · exact setLevel_follows ..
  · exact .ite (.of_stand (complete_stand ..)) (setLevel_follows ..)

theorem monitorJob_stand (j : Job) (s : State) : (monitorJob j s).stand = s.stand := by
  unfold monitorJob
  split <;> exact complete_stand ..

theorem glideJob_stand (j : Job) (s : State) : (glideJob j s).stand = s.stand := by
  unfold glideJob
  split
  · exact complete_stand ..
  · refine (complete_stand ..).trans ?_
    unfold Raster.setGlide
    split <;> rfl

theorem chordJob_stand (j : Job) (s : State) : (chordJob j s).stand = s.stand := by
  unfold chordJob
  extract_lets
  repeat' split
  all_goals exact complete_stand ..

theorem switchJob_follows (j : Job) (s : State) : Follows s (switchJob j s) := by
  unfold switchJob
  split
  · exact .of_stand (complete_stand ..)
  · exact takeSwitch_follows ..

theorem abortJob_follows (j : Job) (s : State) : Follows s (abortJob j s) := by
  have hactive := completeActive_follows s .aborted 0 s.switchData
  have hphase := completeActive_phase s .aborted 0 s.switchData
  unfold abortJob
  split
  case h_1 | h_2 => exact .of_stand (complete_stand ..)
  case h_3 h | h_4 h =>
    exact (hactive.trans (cancel_follows (.inl (by rw [hphase, h]; rfl)))).frame (complete_stand ..)
  case h_5 h | h_6 h | h_7 h =>
    exact (hactive.trans (chooseAnew_follows (by rw [hphase, h]; rfl))).frame (complete_stand ..)
  case h_8 =>
    refine .of_stand ((complete_stand ..).trans ?_)
    unfold State.abortWaiting
    split
    · exact complete_stand ..
    · rfl

/-! #### Sync, the generator, the router and the coin lines -/

theorem slotEvent_stand (s : State) (src : Source) (e : SyncEvent) : (s.slotEvent src e).stand = s.stand := by
  unfold State.slotEvent
  split
  · exact slotStable_stand ..
  · exact enterLost_stand ..
  · exact enterLost_stand ..
  · rfl

theorem signal_follows (s : State) (src : Source) (e : SyncEvent) : Follows s (s.signal src e) := by
  have he : ((s.markSource src).slotEvent src e).stand = s.stand := slotEvent_stand ..
  refine Follows.after ?_ he
  unfold State.signal State.controllerEvent
  split
  · exact .ite (judge_follows _) (.refl _)
  · exact controllerLoses_follows ..
  · exact controllerLoses_follows ..

theorem signalIf_follows (s : State) (src : Source) (e : Option SyncEvent) : Follows s (s.signalIf src e) := by
  unfold State.signalIf
  split
  · exact signal_follows ..
  · exact .refl s

theorem notePass_stand (s : State) (src : Source) (rec : SyncRec) :
    ({ s with raster := s.raster.notePass src rec } : State).stand = s.stand := by
  unfold Raster.notePass
  split <;> rfl

/-- A cut is made in HOLD, by an armed target (R96). -/
theorem cutsAt_armed {r : Raster} {src : Source} {rec : SyncRec} {stamp : Stamp} {arm : CutArm}
    (h : r.cutsAt src rec stamp = some arm) : r.cutArm.isSome = true := by
  unfold Raster.cutsAt at h
  split at h
  case h_1 harm => rw [harm]; rfl
  case h_2 => cases h

theorem announce_follows (s : State) (src : Source) (stamp : Stamp) : Follows s (s.announce src stamp) := by
  unfold State.announce
  extract_lets u
  have hu : u.stand = s.stand := notePass_stand s src (s.record src)
  split
  case isTrue h =>
    refine (releaseHandled_follows (x := none) (.inr ?_) (.inl rfl) rfl rfl).after hu
    exact congrArg Option.isSome h.2
  case isFalse =>
    split
    case h_1 arm hcut => exact (cutHandled_follows src (cutsAt_armed hcut) rfl arm.rough).after hu
    case h_2 => exact .of_stand hu

theorem hsyncAt_stand (s : State) (src : Source) (stamp : Stamp) : (s.hsyncAt src stamp).stand = s.stand :=
  advanceTo_stand s stamp

theorem vsyncTaken_follows (s : State) (src : Source) (input : SyncInput) (stamp : Stamp) :
    Follows s (s.vsyncTaken src input stamp) := by
  have hnote : (s.noteVertical src input stamp).stand = s.stand := by
    unfold State.noteVertical
    split
    · split <;> rfl
    · rfl
  have hrec (u : State) (o : VsyncOutcome) : (u.vsyncRecord src o).stand = u.stand := by
    unfold State.vsyncRecord
    split <;> rfl
  unfold State.vsyncTaken
  extract_lets r o u
  have hu : Follows s u :=
    (signalIf_follows ..).after ((hrec ..).trans ((advanceTo_stand ..).trans hnote))
  exact .ite (hu.trans (announce_follows ..)) hu

theorem takeCoincident_stand (s : State) (src : Source) (input : SyncInput) (stamp : Stamp) :
    (s.takeCoincident src input stamp).stand = s.stand := by
  unfold State.takeCoincident
  split
  · split
    · exact hsyncAt_stand ..
    · rfl
  · rfl

theorem vsyncAt_follows (s : State) (src : Source) (input : SyncInput) (p : SyncPulse) :
    Follows s (s.vsyncAt src input p) :=
  .ite (.ite (.of_stand (advanceTo_stand ..)) ((vsyncTaken_follows ..).after (takeCoincident_stand ..))) (.refl s)

theorem polarityAt_follows (s : State) (src : Source) (input : SyncInput) : Follows s (s.polarityAt src input) :=
  .ite ((signalIf_follows ..).after rfl) (.refl s)

theorem lossOf_follows (s : State) (src : Source) : Follows s (s.lossOf src) :=
  .ite ((signal_follows ..).after rfl) (.refl s)

theorem startLine_stand (s : State) : s.startLine.stand = s.stand := by
  unfold State.startLine
  split
  · refine (advanceTo_stand ..).trans ?_
    unfold Raster.nextLine
    split <;> rfl
  · rfl

/-- What a step of the holding raster never touches (R91 to R96): the mode, the selection and the release order, and outside
ALIGN the cut arm. -/
structure Raster.StepsFrom (phase : Phase) (r q : Raster) : Prop where
  mode : q.mode = r.mode
  crosspoint : q.crosspoint = r.crosspoint
  releaseOrder : q.releaseOrder = r.releaseOrder
  cutArm : phase ≠ .align → q.cutArm = r.cutArm

theorem alignStep_stepsFrom (target : Source) (rec : SyncRec) (tg : Stamp) (r : Raster) :
    r.StepsFrom .align (r.alignStep target rec tg).1 := by
  unfold Raster.alignStep
  extract_lets
  split
  · exact ⟨rfl, rfl, rfl, fun h => absurd rfl h⟩
  · split <;> exact ⟨rfl, rfl, rfl, fun h => absurd rfl h⟩

theorem targetStep_stepsFrom {phase : Phase} (hp : phase = .glide ∨ phase = .align) (target : Source) (rec : SyncRec)
    (tg : Stamp) (r : Raster) : r.StepsFrom phase (r.targetStep phase target rec tg).1 := by
  unfold Raster.targetStep
  split
  · exact ⟨rfl, rfl, rfl, fun _ => rfl⟩
  · split
    case isTrue => exact ⟨rfl, rfl, rfl, fun _ => rfl⟩
    case isFalse h =>
      obtain rfl := hp.resolve_left h
      split
      · exact ⟨rfl, rfl, rfl, fun _ => rfl⟩
      · exact alignStep_stepsFrom ..

theorem step_stepsFrom (phase : Phase) (target : Option (Source × SyncRec)) (tg : Stamp) (r : Raster) :
    r.StepsFrom phase (r.step phase target tg).1 := by
  unfold Raster.step
  split
  case h_2 t rec =>
    obtain ⟨hm, hx, ho, ha⟩ :=
      targetStep_stepsFrom (.inl rfl) t rec tg { r with alignCount := 0 }
    exact ⟨hm, hx, ho, ha⟩
  case h_3 t rec => exact targetStep_stepsFrom (.inr rfl) t rec tg r
  all_goals exact ⟨rfl, rfl, rfl, fun _ => rfl⟩

theorem frameStep_stepsFrom (s : State) : s.raster.StepsFrom s.ho.phase s.frameStep.1 := by
  obtain ⟨hm, hx, ho, ha⟩ :=
    step_stepsFrom s.ho.phase s.stepTarget s.raster.frameEndAt s.raster.takeGlide.wrapFrame
  have htake : s.raster.StepsFrom s.ho.phase s.raster.takeGlide.wrapFrame := by
    unfold Raster.takeGlide
    split <;> exact ⟨rfl, rfl, rfl, fun _ => rfl⟩
  exact ⟨hm.trans htake.mode, hx.trans htake.crosspoint, ho.trans htake.releaseOrder,
    fun h => (ha h).trans (htake.cutArm h)⟩

theorem endFrame_follows (s : State) : Follows s s.endFrame := by
  refine .ite ?_ (.refl s)
  have hcount (u : State) : u.countFrame.stand = u.stand := by
    unfold State.countFrame
    split <;> rfl
  obtain ⟨hm, hx, ho, ha⟩ := frameStep_stepsFrom s
  have hstep : ({ s with raster := s.frameStep.1 } : State).stand = { s.stand with armed := s.frameStep.1.cutArm.isSome } := by
    simp only [State.stand, hm, hx, ho]
  have hs : Follows s { s with raster := s.frameStep.1 } := by
    by_cases hp : s.ho.phase = .align
    · exact .move (.arm _ _ hp) hstep
    · exact .of_stand (hstep.trans (by rw [ha hp]; rfl))
  exact (hs.frame ((hcount _).trans (advanceTo_stand ..))).trans (onFinding_follows ..)

theorem settlePins_stand (s : State) : s.settlePins.stand = s.stand := by
  rw [settlePins_frame]
  rfl

/-- A change of the router that leaves the driven slot leaves the stand. -/
theorem router_stand (s : State) {r : Router} (h : r.driven = s.router.driven) :
    ({ s with router := r } : State).stand = s.stand := congrArg (fun d => { s.stand with driven := d }) h

theorem acceptLine_driven (l : Line) (b : Bool) (r : Router) : (r.acceptLine l b).driven = r.driven := by
  cases l <;> rfl

theorem lineOn_stand (s : State) (l : Line) : (s.lineOn l).stand = s.stand := by
  unfold State.lineOn
  split
  · rfl
  · have hline := router_stand s (acceptLine_driven l true s.router)
    refine (settlePins_stand _).trans (Eq.trans ?_ hline)
    cases l with
    | service => exact routeUnit_stand _
    | input | operatorKey => rfl

theorem released_driven (l : Line) (r : Router) : (r.released l).driven = r.driven := by
  cases l <;> rfl

theorem chordReleases_driven (r : Router) : r.chordReleases.driven = r.driven := by
  simp only [Router.chordReleases]
  repeat' split
  all_goals rfl

theorem lineOff_stand (s : State) (l : Line) : (s.lineOff l).stand = s.stand := by
  unfold State.lineOff
  split
  · refine (settlePins_stand _).trans (router_stand s ?_)
    have hr : ((s.router.acceptLine l false).released l).driven = s.router.driven :=
      (released_driven ..).trans (acceptLine_driven ..)
    unfold State.advanceReleased
    split
    · exact hr
    · exact (chordReleases_driven _).trans hr
  · rfl

theorem installPending_stand (s : State) (i : Slot) : (s.installPending i).stand = s.stand := by
  unfold State.installPending
  split
  · rfl
  · exact (settlePins_stand _).trans ((complete_stand ..).trans (router_stand s (installMap_driven ..)))

theorem stepEntry_stand (s : State) (k m : Nat) (f : MapEntry → EntryPhase → EntryPhase) :
    (s.stepEntry k m f).stand = s.stand := by
  unfold State.stepEntry
  split
  · rfl
  · exact settlePins_stand _

theorem exitChord_follows (s : State) : Follows s s.exitChord := by
  unfold State.exitChord
  split
  case h_1 i hair =>
    split
    case isTrue hruns =>
      have hphase : s.ho.phase = .quiet := by
        simp only [State.chordRuns, Bool.and_eq_true, decide_eq_true_eq] at hruns
        exact hruns.1.1.1.2
      exact .ite ((chordFallback_follows (s := s.chordDetected) hphase hair).after rfl) (.of_stand rfl)
    case isFalse => exact .refl s
  all_goals exact .refl s

theorem coinBegin_stand (s : State) (l : CoinLine) : (s.coinBegin l).stand = s.stand := by
  unfold State.coinBegin
  split
  · exact sampleCoin_stand s l true
  · rfl

theorem coinEnd_stand (s : State) (l : CoinLine) : (s.coinEnd l).stand = s.stand := by
  unfold State.coinEnd
  extract_lets t
  have ht : t.stand = s.stand := sampleCoin_stand s l false
  split
  · rfl
  · exact ht
  · split
    · exact (coinUnits_stand ..).trans ht
    · exact ht

theorem coinJammed_stand (s : State) (l : CoinLine) : (s.coinJammed l).stand = s.stand := by
  unfold State.coinJammed
  split
  · exact sampleCoin_stand s l true
  all_goals rfl

theorem pulseStart_stand (s : State) (i : Slot) : (s.pulseStart i).stand = s.stand := by
  unfold State.pulseStart
  split
  · split <;> rfl
  · rfl

theorem meterStart_stand (s : State) : s.meterStart.stand = s.stand := by
  unfold State.meterStart
  split <;> rfl

theorem rampTick_follows (s : State) : Follows s s.rampTick :=
  .ite ((levelReached_follows _).after (crossover_stand _)) (.refl s)

/-! #### The step -/

theorem sample_driven (p : Pins) (r : Router) : (r.sample p).driven = r.driven := by
  have hl (l : List Line) (q : Router) : (l.foldl (Router.sampleLine p) q).driven = q.driven := by
    induction l generalizing q with
    | nil => rfl
    | cons a l ih => exact ih _
  simp only [Router.sample]
  exact hl allLines r

theorem countTick_stand (s : State) : s.countTick.stand = s.stand := by
  have htimer : (tickDown s.ho.releaseTimer).isSome = s.ho.releaseTimer.isSome := Option.isSome_map
  have hdriven := sample_driven s.pins s.router
  unfold State.countTick
  generalize s.router.sample s.pins = r at hdriven ⊢
  exact congrArg₂ (fun b d => { s.stand with timed := b, driven := d }) htimer hdriven

theorem advanceChord_stand (s : State) : s.advanceChord.stand = s.stand :=
  router_stand s (chordReleases_driven _)

theorem drive_driven (r : Router) : r.drive.driven = r.driven := by
  unfold Router.drive
  split <;> rfl

/-- What the part does by itself counts and queues: the hand-over stands. -/
theorem idle_stand (s : State) : s.idle.stand = s.stand := by
  unfold State.idle
  split
  case h_5 => exact advanceChord_stand s
  case h_6 => exact router_stand s (drive_driven s.router)
  case h_10 =>
    split
    · exact countTick_stand s
    · rfl
  all_goals rfl

/-- The end of a command adds marks alone (R14). -/
theorem Follows.finish {new : State} (h : Follows s new) (e : finish s new = .next t) : Follows s t := by
  cases e
  exact h.frame rfl

/-- Every command changes the stand by moves of the controller alone. -/
theorem exec_follows (c : Instr) (s : State) {t : State} (e : exec c s = .next t) : Follows s t := by
  cases c with
  | windowWrite addr v => exact (writeAt_follows s addr v).finish e
  | post v => exact (Follows.of_stand (writePost_stand s v)).finish e
  | done v => exact (Follows.of_stand (writeDone_stand s v)).finish e
  | notice v => exact (writeRegister_follows s .notice v).finish e
  | noticeMask v => exact (writeRegister_follows s .noticeMask v).finish e
  | writeNoEffect => exact (Follows.refl s).finish e
  | softRestart v => exact (writeControl_follows s v).finish e
  | softRestartEnd b => exact (Follows.of_stand (busStopped_stand s b)).finish e
  | powerOnReset =>
    cases e
    exact .move (.reset _) rfl
  | unknownKind | setupBadGroup => exact (takeIf_stands (fun _ _ => complete_stand ..) s).finish e
  | switch => exact (takeIf_follows switchJob_follows s).finish e
  | abort => exact (takeIf_follows abortJob_follows s).finish e
  | powerOff => exact (takeIf_stands (powerJob_stand powerOff_stand) s).finish e
  | powerOn => exact (takeIf_stands (powerJob_stand powerOn_stand) s).finish e
  | powerCycle => exact (takeIf_stands (powerJob_stand powerCycle_stand) s).finish e
  | pin | unpin => exact (takeIf_stands (powerJob_stand (setPin_stand _)) s).finish e
  | loadMap => exact (takeIf_stands loadMapJob_stand s).finish e
  | creditGrant => exact (takeIf_stands (creditJob_stand (amountJob_stand grantJob_stand)) s).finish e
  | creditWithdraw => exact (takeIf_stands (creditJob_stand (amountJob_stand withdrawCredit_stand)) s).finish e
  | creditDeliver => exact (takeIf_stands (creditJob_stand (amountJob_stand deliverJob_stand)) s).finish e
  | creditRecall => exact (takeIf_stands (creditJob_stand recallJob_stand) s).finish e
  | setLevels => exact (takeIf_follows levelsJob_follows s).finish e
  | setupMonitor => exact (takeIf_stands monitorJob_stand s).finish e
  | setupGlide => exact (takeIf_stands glideJob_stand s).finish e
  | setupChord => exact (takeIf_stands chordJob_stand s).finish e
  | setupCoin => exact (takeIf_stands coinJob_stand s).finish e
  | setupSupply => exact (takeIf_stands supplyJob_stand s).finish e
  | eepromRead => exact (takeIf_stands (eepromChecks_stand (act := queueRead) fun _ _ _ => rfl) s).finish e
  | eepromWrite => exact (takeIf_stands (eepromChecks_stand queueWrite_stand) s).finish e
  | reload => exact (takeIf_stands reloadJob_stand s).finish e
  | pageUpdateStart id => exact (Follows.of_stand (pageStart_stand s id)).finish e
  | pageUpdateEnd id => exact (Follows.of_stand (pageEnd_stand s id)).finish e
  | presenceDetected i => exact (Follows.of_stand (presence_stand s i)).finish e
  | removal i => exact (removeSlot_follows s i).finish e
  | overcurrent i => exact (overcurrent_follows s i).finish e
  | settleTimerExpiry i => exact (Follows.of_stand (settled_stand s i)).finish e
  | startTimerExpiry i => exact (startFailed_follows s i).finish e
  | graceTimerExpiry i => exact (graceOver_follows s i).finish e
  | coolTimerExpiry i => exact (cooled_follows s i).finish e
  | busRequestStart => exact (Follows.of_stand (startRequest_stand s)).finish e
  | readTransactionEnd bytes => exact (endRead_follows s bytes).finish e
  | writeDataStop => exact (Follows.of_stand (dataStop_stand s)).finish e
  | ackPoll a => exact (Follows.of_stand (poll_stand s a)).finish e
  | writeTimeout => exact (Follows.of_stand (pollTimeout_stand s)).finish e
  | ackMissing p => exact (nack_follows s p).finish e
  | writeRecoveryEnd => exact (Follows.of_stand (recovered_stand s)).finish e
  | hsyncLeadingEdge src stamp => exact (Follows.of_stand (hsyncAt_stand s src stamp)).finish e
  | vsyncLeadingEdge src input p => exact (vsyncAt_follows s src input p).finish e
  | polarityChange src input => exact (polarityAt_follows s src input).finish e
  | hsyncLoss src | vsyncLoss src => exact (lossOf_follows s src).finish e
  | holdingLineStart => exact (Follows.of_stand (startLine_stand s)).finish e
  | holdingFrameEnd => exact (endFrame_follows s).finish e
  | releaseTimerExpiry => exact (releaseTimeout_follows s).finish e
  | lineActivation l => exact (Follows.of_stand (lineOn_stand s l)).finish e
  | lineRelease l => exact (Follows.of_stand (lineOff_stand s l)).finish e
  | mapInstall i => exact (Follows.of_stand (installPending_stand s i)).finish e
  | pulseEntryEnd k n | autofireOnEnd k n | autofireOffEnd k n =>
    exact (Follows.of_stand (stepEntry_stand s k n.val _)).finish e
  | exitChord => exact (exitChord_follows s).finish e
  | coinMeasuringBegins l => exact (Follows.of_stand (coinBegin_stand s l)).finish e
  | coinPulseEnd l => exact (Follows.of_stand (coinEnd_stand s l)).finish e
  | coinJam l => exact (Follows.of_stand (coinJammed_stand s l)).finish e
  | coinPulseStart i => exact (Follows.of_stand (pulseStart_stand s i)).finish e
  | coinPulseOnEnd i => exact (Follows.of_stand rfl : Follows s (s.pulseOnEnd i)).finish e
  | coinPulseOffEnd i => exact (Follows.of_stand rfl : Follows s (s.pulseOffEnd i)).finish e
  | meterPulseStart => exact (Follows.of_stand (meterStart_stand s)).finish e
  | meterPulseOnEnd =>
    exact (Follows.of_stand rfl : Follows s { s with credit.meter := s.credit.meter.map Pulse.rest }).finish e
  | meterPulseOffEnd =>
    exact (Follows.of_stand rfl : Follows s { s with credit.meter := s.credit.meter.bind Pulse.ended }).finish e
  | rampStep => exact (rampTick_follows s).finish e

/-- A step is the front command on the rest of the queue, or the part's own idling. -/
theorem step_follows (e : step s = .next t) : Follows s t := by
  unfold step at e
  split at e
  case h_1 c rest _ => exact (exec_follows c _ e).after rfl
  case h_2 => exact (Follows.of_stand (idle_stand s)).finish e

/-- Settles O6: every move keeps the crosspoint and the sound with the source on air. -/
theorem stepKeepsAirSound : Obligations.StepKeepsAirSound := fun _ _ h e => h.follows (step_follows e)

/-- Settles O8: every move keeps what the phases hold. -/
theorem stepKeepsPhaseSound : Obligations.StepKeepsPhaseSound := fun _ _ h e => h.follows (step_follows e)

end
end Sys2Proof.Machine
end

section
namespace Sys2Proof.Machine

/-! ### SETUP MONITOR and SETUP GLIDE at their take (R98, R99) -/

section
variable {s : State} {j : Job}

theorem outOf_eq_false {lo hi v : Nat} : outOf lo hi v = false ↔ lo ≤ v ∧ v ≤ hi := by
  simp [outOf]

/-- With every word in range, SETUP MONITOR fails at the phase and at the rasters that stand alone (R98). -/
theorem monitorFailure_inRange (hmin : 8192 ≤ j.word 3) (hmax : j.word 4 ≤ 32752) (hlow : j.word 3 ≤ j.word 5)
    (hhigh : j.word 5 ≤ j.word 4) (hl : 200 ≤ j.word 6) (hl' : j.word 6 ≤ 700) : s.monitorFailure j =
      if s.ho.phase ≠ .quiet then some (.inUse, 1)
      else if s.onAirOutside (j.word 3) (j.word 4) then some (.inUse, 2)
      else if s.raster.mode = .hold ∧ outOf (j.word 3) (j.word 4) s.raster.p = true then some (.inUse, 3)
      else none := by
  have h3 : outOf 8192 32752 (j.word 3) = false := outOf_eq_false.2 (by omega)
  have h4 : outOf 8192 32752 (j.word 4) = false := outOf_eq_false.2 (by omega)
  have h5 : outOf 8192 32752 (j.word 5) = false := outOf_eq_false.2 (by omega)
  have h6 : outOf 200 700 (j.word 6) = false := outOf_eq_false.2 ⟨hl, hl'⟩
  have hrest : ¬ ¬ (j.word 3 ≤ j.word 5 ∧ j.word 5 ≤ j.word 4) := fun h => h ⟨hlow, hhigh⟩
  simp only [State.monitorFailure, h3, h4, h5, h6, if_neg hrest, Bool.false_eq_true, if_false]

/-- SETUP MONITOR passes every check where the new window holds the on-air source's last stable P and the holding P. -/
theorem monitorFailure_none (hmin : 8192 ≤ j.word 3) (hmax : j.word 4 ≤ 32752) (hlow : j.word 3 ≤ j.word 5)
    (hhigh : j.word 5 ≤ j.word 4) (hl : 200 ≤ j.word 6) (hl' : j.word 6 ≤ 700) (hphase : s.ho.phase = .quiet)
    (hair : ∀ src, s.ho.onAir = some src → j.word 3 ≤ (s.record src).lastP ∧ (s.record src).lastP ≤ j.word 4)
    (hhold : s.raster.mode = .hold → j.word 3 ≤ s.raster.p ∧ s.raster.p ≤ j.word 4) : s.monitorFailure j = none := by
  have hout : s.onAirOutside (j.word 3) (j.word 4) = false := by
    unfold State.onAirOutside
    split
    case h_1 src h => exact outOf_eq_false.2 (hair src h)
    case h_2 => rfl
  have hp : ¬ (s.raster.mode = .hold ∧ outOf (j.word 3) (j.word 4) s.raster.p = true) := fun ⟨hm, ho⟩ => by
    rw [outOf_eq_false.2 (hhold hm)] at ho
    cases ho
  rw [monitorFailure_inRange hmin hmax hlow hhigh hl hl', if_neg (fun h => h hphase), hout, if_neg (by decide), if_neg hp]

theorem glideFailure_none (h3 : 1 ≤ j.word 3 ∧ j.word 3 ≤ 4096) (h4 : 1 ≤ j.word 4 ∧ j.word 4 ≤ 64)
    (h5 : 1 ≤ j.word 5 ∧ j.word 5 ≤ 16) (h6 : 10 ≤ j.word 6 ∧ j.word 6 ≤ 1000) : glideFailure j = none := by
  simp [glideFailure, outOf_eq_false.2 h3, outOf_eq_false.2 h4, outOf_eq_false.2 h5, outOf_eq_false.2 h6]

theorem isSetup_due {g : Nat} (hj : NextJob s j 7) (hg : j.word 2 = g) : Job.isSetup g j = true := by
  simp [Job.isSetup, Job.isKind, hj.2.2, hg]

theorem setGlide_eq (g : Glide) (r : Raster) : r.setGlide g =
    if r.mode = .pass then { r with glide := g, pendingGlide := none } else { r with pendingGlide := some g } := by
  unfold Raster.setGlide
  cases r.mode <;> rfl

/-- Settles O34: both jobs end at their take, the monitor's with source page 0 marked. -/
theorem monitorAndGlideSet : Obligations.MonitorAndGlideSet := by
  intro s j hj
  refine ⟨fun hg hmin hmax hlow hhigh hl hl' => ⟨fun hphase => ?_, fun hphase hair hhold => ?_⟩,
    fun hg h3 h3' h4 h4' h5 h5' h6 h6' => ?_⟩
  · have hf : (s.take j.cell).monitorFailure j = some (.inUse, 1) :=
      (monitorFailure_inRange hmin hmax hlow hhigh hl hl').trans (if_pos hphase)
    exact refused_at_take hj.1 hj.2.1 (isSetup_due hj hg) (by simp only [monitorJob, hf])
  · have hf : (s.take j.cell).monitorFailure j = none :=
      monitorFailure_none hmin hmax hlow hhigh hl hl' hphase hair hhold
    obtain ⟨w, n, p, he, hend, hmark⟩ := ended_at_take (act := monitorJob) (m := { (s.take j.cell).markSource .menu with
      raster.pMin := j.word 3, raster.pMax := j.word 4, raster.pRest := j.word 5, raster.lRest := j.word 6 }) hj.1 hj.2.1
      (isSetup_due hj hg) (by simp only [monitorJob, hf]; rfl) rfl rfl
      fun id => ⟨mark_count s (.source .menu) id, mark_keeps s (.source .menu) id⟩
    exact ⟨_, he, hend, rfl, hmark (.source .menu) (markSource_mark (s.take j.cell) .menu), rfl⟩
  · have hf : glideFailure j = none := glideFailure_none ⟨h3, h3'⟩ ⟨h4, h4'⟩ ⟨h5, h5'⟩ ⟨h6, h6'⟩
    obtain ⟨w, n, p, he, hend, -⟩ := ended_at_take (act := glideJob) (m := { s.take j.cell with
      raster := s.raster.setGlide ⟨j.word 3, j.word 4, j.word 5, j.word 6⟩ }) hj.1 hj.2.1 (isSetup_due hj hg)
      (by simp only [glideJob, hf]; rfl) rfl rfl (OnlyMarks.refl s)
    exact ⟨_, he, hend, setGlide_eq .., rfl⟩

end
end Sys2Proof.Machine
end

section
namespace Sys2Proof.Machine

/-! ### Removal of the on-air slot (R23, R89, R123, R165, R181) -/

section
variable {s : State} {i : Slot}

/-- What a removal has done when the controller learns of it: the jobs' ends apart, which touch the window and the intake,
the slot and all that hangs on it is emptied (R23, R24). -/
theorem removeSlot_told (hs : (s.slot i).state ≠ .empty) (hstop : s.bus.stopping = false) : ∃ w n,
    s.removeSlot i = { s.emptied i with window := w, intake := n }.controllerSlotFails i .removed := by
  obtain ⟨w₁, n₁, hanswered⟩ : ∃ w n, (s.emptySlot i).answerJob i (s.slot i).powerUp .noBoard 0 (s.slot i).mask =
      { s.emptySlot i with window := w, intake := n } := by
    rw [answerJob_completeEach, completeEach_frame]
    exact ⟨_, _, rfl⟩
  obtain ⟨w₂, n₂, hbus⟩ : ∃ w n, ({ s.emptySlot i with window := w₁, intake := n₁ } : State).removeBus i =
      { { s.emptySlot i with bus := s.bus.withoutSlot i (s.servingSlot i) }.markCabinet with
        window := w, intake := n } := by
    rw [removeBus_eq (by exact hstop), completeEach_frame]
    exact ⟨_, _, rfl⟩
  obtain ⟨w₃, n₃, hrouter⟩ : ∃ w n,
      ((({ { s.emptySlot i with bus := s.bus.withoutSlot i (s.servingSlot i) }.markCabinet with
        window := w₂, intake := n₂ } : State).emptyRecord i).removeCredit i).removeRouter i =
        { s.emptied i with window := w, intake := n } := by
    rw [removeRouter_eq, completeEach_frame]
    exact ⟨_, _, rfl⟩
  refine ⟨w₃, n₃, ?_⟩
  rw [State.removeSlot, if_neg hs]
  simp only [hanswered, hbus, hrouter]

/-- A FALLBACK at a loss start waits for source 0, or finds it ready (R89, R108, R109, R123). -/
theorem lossFallback_judged (s : State) (i : Slot) (reason : FailReason) : ∃ pages, s.lossFallback i reason = { s with
    pages := pages,
    ho := { s.ho with
      phase := if (s.record .menu).stable then .glide else .waitTarget, kind := .fallback, onAir := none,
      outgoing := some (.slot i), target := some .menu, active := none, frames := 0, rough := false, cutFeed := false,
      carry := 0, lastFallback := reason, cancelled := false },
    raster := { s.raster.immediateHold s.sync.mtick with cutArm := none },
    audio := { s.audio with current := 0, target := 0, wanted := none, crosspoint := none },
    router := { s.router with driven := none, entries := [], activePins := 0, chordFreeze := false },
    credit := (s.leaveAir i).credit } ∧ OnlyMarks s { s with pages := pages } := by
  obtain ⟨pages, hq, hm⟩ := lossStart_eq (s.leaveAir i)
  let u : State := { (s.leaveAir i).lossStart with
    ho.kind := .fallback, ho.outgoing := some (.slot i), ho.target := some .menu, ho.lastFallback := reason,
    ho.active := none, ho.frames := 0, ho.rough := false, ho.cutFeed := false, ho.carry := 0, ho.cancelled := false }
  have hphase : u.ho.phase = .waitTarget := congrArg (fun t : State => t.ho.phase) hq
  have harm : u.raster.cutArm = none := congrArg (fun t : State => t.raster.cutArm) hq
  have hrecord : u.record .menu = s.record .menu := (congrArg (fun t : State => t.record .menu) hq).trans rfl
  have hready : Reaches u .menu (if (s.record .menu).stable then .glide else .waitTarget) := by
    rw [← hrecord]
    cases hmenu : (u.record .menu).stable with
    | true => exact .inl ⟨hmenu, rfl⟩
    | false => exact .inr ⟨hmenu, rfl⟩
  obtain ⟨pages', hjudge, hm'⟩ := judge_reaches hphase rfl harm hready
  refine ⟨pages', (show s.lossFallback i reason = u.judge from rfl).trans ?_, ?_⟩
  · rw [hjudge]
    simp only [u, hq]
    rfl
  · exact OnlyMarks.trans (OnlyMarks.congr hm ((congrArg State.pages hq).trans rfl)) (OnlyMarks.congr hm' (by rfl))

/-- Settles O40: the slot is emptied first, and the controller, told of it, makes the loss start. -/
theorem onAirRemovalFallsBack : Obligations.OnAirRemovalFallsBack := by
  intro s i hphase hair hs hmode hstop
  obtain ⟨w, n, hremove⟩ := removeSlot_told hs hstop
  let u : State := { s.emptied i with window := w, intake := n }
  have htold : u.controllerSlotFails i .removed = u.lossFallback i .removed := by
    have hp : u.ho.phase = .quiet := hphase
    simp only [State.controllerSlotFails, hp]
    exact if_pos hair
  obtain ⟨pages, hfall, hm⟩ := lossFallback_judged u i .removed
  have hmarks : OnlyMarks s { u with pages := pages } :=
    OnlyMarks.trans ((emptied_marks s i).congr (u := u) rfl) hm
  obtain ⟨p, he, hmarked, -⟩ := stepped_by (congrArg (finish s) (hremove.trans (htold.trans hfall)))
    (hmarks.congr (by rfl))
  obtain ⟨hraster, htiming⟩ := holdsAtOnce_of_immediate (s := s)
    (t := { s with raster := { s.raster.immediateHold s.sync.mtick with cutArm := none } }) hmode rfl
  have hslot : (s.emptied i).slot i = { SlotRec.reset with reason := .removed } := PerSlot.get_set_same ..
  exact ⟨_, he, congrArg SlotRec.state hslot, congrArg SlotRec.reason hslot, rfl, congrArg Raster.mode hraster,
    congrArg Raster.crosspoint hraster, congrArg Raster.pass hraster, congrArg Raster.acc hraster,
    congrArg Raster.lineIndex hraster, congrArg Raster.lineStart hraster, rfl, htiming, rfl, rfl, rfl, rfl, rfl, rfl,
    PerSlot.get_set_same .., PerSlot.get_set_same .., hmarked⟩

end
end Sys2Proof.Machine
end

section
namespace Sys2Proof.Machine

/-! ### Holding lines (R84) -/

section
variable {s t : State}

/-- A holding line starts where one is due, and the counter runs on to its start. -/
theorem startLine_due (h : s.raster.lineDue = true) : s.startLine =
    { s with raster := s.raster.nextLine, sync := s.sync.runOn s.raster.nextLine.lineStart } :=
  (if_pos h).trans (advanceTo_runOn ..)

/-- A command that moves the raster and runs the counter on does nothing else but mark pages. -/
theorem stepped_raster {x : Host.Outcome State Fault Refusal} {r : Raster} {stamp : Stamp}
    (hx : x = finish s { s with raster := r, sync := s.sync.runOn stamp }) :
    ∃ t, x = .next t ∧ t.raster = r ∧ t = { s with raster := t.raster, sync := t.sync, pages := t.pages } ∧
      t.sync.records = s.sync.records ∧ OnlyMarks s t := by
  obtain ⟨p, he, hm, -⟩ := stepped_by hx ((OnlyMarks.refl s).congr rfl)
  exact ⟨_, he, rfl, rfl, rfl, hm⟩

theorem lineStart_steps (hmode : s.raster.mode = .hold) (h : s.raster.lineBegun = false ∨ s.raster.lineIndex < s.raster.l) :
    ∃ t, exec .holdingLineStart s = .next t ∧ t.raster = s.raster.nextLine ∧
      t = { s with raster := t.raster, sync := t.sync, pages := t.pages } ∧ t.sync.records = s.sync.records ∧
      OnlyMarks s t := by
  have hdue : s.raster.lineDue = true := by
    obtain h | h := h <;> simp [Raster.lineDue, hmode, h]
  exact stepped_raster (congrArg (finish s) (startLine_due hdue))

/-! ### Frame ends (R86, R91 to R96, R110) -/

/-- The hand-over once a frame end has been counted (R106, R110). -/
def HandOver.counted (h : HandOver) : HandOver :=
  if h.phase.beforeCut then { h with frames := min 65535 (h.frames + 1) } else h

theorem counted_held {h : HandOver} (hp : h.phase.beforeCut = true) :
    h.counted = { h with frames := min 65535 (h.frames + 1) } := if_pos hp

/-- A frame end steps the raster, runs the counter on and counts the frame; then the controller acts on what was found. -/
theorem endFrame_eq (hmode : s.raster.mode = .hold) : s.endFrame =
    { s with raster := s.frameStep.1, sync := s.sync.runOn s.raster.frameEndAt, ho := s.ho.counted }.onFinding
      s.frameStep.2 := by
  refine (if_pos hmode).trans ?_
  rw [advanceTo_runOn]
  refine congrArg (State.onFinding · s.frameStep.2) ?_
  unfold State.countFrame HandOver.counted
  split <;> rfl

theorem frameStep_eq (hglide : s.raster.pendingGlide = none) :
    s.frameStep = s.raster.wrapFrame.step s.ho.phase s.stepTarget s.raster.frameEndAt := by
  simp only [State.frameStep, Raster.takeGlide, hglide]

/-- A frame end that finds nothing. -/
theorem frameEnd_nothing (hmode : s.raster.mode = .hold) {r : Raster} (hstep : s.frameStep = (r, .nothing)) :
    ∃ t, exec .holdingFrameEnd s = .next t ∧ t.raster = r ∧ t.ho = s.ho.counted ∧
      t = { s with raster := t.raster, ho := t.ho, sync := t.sync, pages := t.pages } ∧
      t.sync.records = s.sync.records ∧ OnlyMarks s t := by
  have hend := endFrame_eq hmode
  rw [hstep] at hend
  obtain ⟨p, he, hm, -⟩ := stepped_by (congrArg (finish s) hend) ((OnlyMarks.refl s).congr rfl)
  exact ⟨_, he, rfl, rfl, rfl, rfl, hm⟩

/-- A frame end in QUIET glides toward the rest raster (R92). -/
theorem frameEnd_quiet (hmode : s.raster.mode = .hold) (hphase : s.ho.phase = .quiet)
    (hglide : s.raster.pendingGlide = none) :
    ∃ t, exec .holdingFrameEnd s = .next t ∧
      t.raster = { s.raster.wrapFrame with alignCount := 0 }.glideTo ⟨s.raster.pRest, s.raster.lRest⟩ ∧
      t = { s with raster := t.raster, sync := t.sync, pages := t.pages } ∧ t.sync.records = s.sync.records ∧
      OnlyMarks s t := by
  have hcount : s.ho.counted = s.ho := if_neg (by rw [hphase]; decide)
  obtain ⟨t, he, hr, hho, ht, hrec, hm⟩ := frameEnd_nothing hmode
    (r := { s.raster.wrapFrame with alignCount := 0 }.glideTo ⟨s.raster.pRest, s.raster.lRest⟩)
    (by rw [frameStep_eq hglide, hphase]; rfl)
  rw [hho, hcount] at ht
  exact ⟨t, he, hr, ht, hrec, hm⟩

theorem step_waitTarget (target : Option (Source × SyncRec)) (stamp : Stamp) (r : Raster) :
    r.step .waitTarget target stamp = ({ r with alignCount := 0 }, .nothing) := by
  cases target <;> rfl

theorem takeGlide_eq (r : Raster) : r.takeGlide =
    { r with glide := r.pendingGlide.getD r.glide, pendingGlide := none } := by
  unfold Raster.takeGlide
  split
  case h_1 g h => rw [h]; rfl
  case h_2 h => rw [h]; exact congrArg (fun g => { r with pendingGlide := g }) h

theorem frameEnd_waitTarget (hmode : s.raster.mode = .hold) (hphase : s.ho.phase = .waitTarget)
    (hframes : s.ho.frames < 65535) :
    ∃ t, exec .holdingFrameEnd s = .next t ∧ t.raster.p = s.raster.p ∧ t.raster.l = s.raster.l ∧
      t.ho = { s.ho with frames := s.ho.frames + 1 } ∧
      t = { s with raster := t.raster, sync := t.sync, ho := t.ho, pages := t.pages } ∧ OnlyMarks s t := by
  have hcount : s.ho.counted = { s.ho with frames := s.ho.frames + 1 } := by
    rw [counted_held (by rw [hphase]; rfl), Nat.min_eq_right (by omega)]
  obtain ⟨t, he, hr, hho, ht, -, hm⟩ := frameEnd_nothing hmode
    (r := { s.raster.takeGlide.wrapFrame with alignCount := 0 })
    (by rw [State.frameStep, hphase, step_waitTarget])
  rw [takeGlide_eq] at hr
  exact ⟨t, he, (congrArg Raster.p hr).trans rfl, (congrArg Raster.l hr).trans rfl, hho.trans hcount, ht, hm⟩

/-! #### Toward a usable target (R92 to R96, R110) -/

/-- A usable target makes a step (R95). -/
theorem usable_steps {rec : SyncRec} {r : Raster} (hs : rec.stable = true) (hlow : r.pMin ≤ rec.lastP)
    (hhigh : rec.lastP ≤ r.pMax) : r.unusable rec = none := by
  unfold Raster.unusable
  rw [if_neg (by omega), if_pos hs]

theorem frameStep_glide {target : Source} (hphase : s.ho.phase = .glide) (htarget : s.ho.target = some target)
    (hglide : s.raster.pendingGlide = none) (hs : (s.record target).stable = true)
    (hlow : s.raster.pMin ≤ (s.record target).lastP) (hhigh : (s.record target).lastP ≤ s.raster.pMax) :
    s.frameStep = { s.raster.wrapFrame with alignCount := 0 }.glideStep (s.record target) := by
  have hstep : s.stepTarget = some (target, s.record target) := by rw [State.stepTarget, htarget]; rfl
  have husable : ({ s.raster.wrapFrame with alignCount := 0 } : Raster).unusable (s.record target) = none :=
    usable_steps hs hlow hhigh
  rw [frameStep_eq hglide, hphase, hstep]
  simp only [Raster.step, Raster.targetStep, husable, if_true]

theorem frameStep_align {target : Source} (hphase : s.ho.phase = .align) (htarget : s.ho.target = some target)
    (hglide : s.raster.pendingGlide = none) (hs : (s.record target).stable = true)
    (hlow : s.raster.pMin ≤ (s.record target).lastP) (hhigh : (s.record target).lastP ≤ s.raster.pMax) :
    (∀ arm, s.raster.cutArm = some arm → s.frameStep = s.raster.wrapFrame.armedFrame (s.record target) arm) ∧
      (s.raster.cutArm = none →
        s.frameStep = s.raster.wrapFrame.alignStep target (s.record target) s.raster.frameEndAt) := by
  have hstep : s.stepTarget = some (target, s.record target) := by rw [State.stepTarget, htarget]; rfl
  have husable : s.raster.wrapFrame.unusable (s.record target) = none := usable_steps hs hlow hhigh
  have htarget' : s.frameStep = s.raster.wrapFrame.targetStep .align target (s.record target) s.raster.frameEndAt := by
    rw [frameStep_eq hglide, hphase, hstep]
    rfl
  refine ⟨fun arm harm => ?_, fun harm => ?_⟩
  · have harm' : s.raster.wrapFrame.cutArm = some arm := harm
    simp only [htarget', Raster.targetStep, husable, reduceCtorEq, if_false, harm']
  · have harm' : s.raster.wrapFrame.cutArm = none := harm
    simp only [htarget', Raster.targetStep, husable, reduceCtorEq, if_false, harm']

/-- A frame end between release and cut has stepped the raster to `r`, counted the frame, set the rough flag and reached a
phase; no record has changed (R110). -/
structure FrameStepped (s x : State) (r : Raster) (rough : Bool) (p : Phase) : Prop where
  raster : x.raster = r
  ho : x.ho = { s.ho with frames := min 65535 (s.ho.frames + 1), rough := rough, phase := p }
  frame : x = { s with raster := x.raster, ho := x.ho, sync := x.sync, pages := x.pages }
  records : x.sync.records = s.sync.records
  marks : OnlyMarks s x

/-- A frame end that leaves the phase, with or without arming the cut. -/
theorem frameEnd_stays (hmode : s.raster.mode = .hold) (hp : s.ho.phase.beforeCut = true) {r : Raster} {f : Finding}
    {rough : Bool} (hstep : s.frameStep = (r, f)) (hf : f = .nothing ∧ rough = s.ho.rough ∨ f = .armed rough) :
    ∃ t, exec .holdingFrameEnd s = .next t ∧ FrameStepped s t r rough s.ho.phase := by
  let u : State := { s with raster := r, sync := s.sync.runOn s.raster.frameEndAt, ho := { s.ho with
    frames := min 65535 (s.ho.frames + 1), rough := rough } }
  have hu : s.endFrame = u := by
    rw [endFrame_eq hmode, hstep, counted_held hp]
    obtain ⟨rfl, rfl⟩ | rfl := hf <;> rfl
  obtain ⟨p, he, hm, -⟩ := stepped_by (congrArg (finish s) hu) ((OnlyMarks.refl s).congr rfl)
  exact ⟨_, he, rfl, rfl, rfl, rfl, hm⟩

/-- The glide step, and ALIGN once the holding timing stands at the target's (R92, R110). -/
theorem frameEnd_glide (hmode : s.raster.mode = .hold) (hphase : s.ho.phase = .glide) {tm : Timing} {r : Raster}
    (hstep : s.frameStep = (r, if r.standsAt tm then .glideComplete else .nothing)) :
    ∃ t, exec .holdingFrameEnd s = .next t ∧
      FrameStepped s t r s.ho.rough (if r.p = tm.p ∧ r.l = tm.l then .align else .glide) := by
  have hstands : r.standsAt tm = true ↔ r.p = tm.p ∧ r.l = tm.l := by
    simp [Raster.standsAt]
  by_cases h : r.p = tm.p ∧ r.l = tm.l
  · rw [if_pos h]
    rw [if_pos (hstands.2 h)] at hstep
    let u : State := { s with raster := r, sync := s.sync.runOn s.raster.frameEndAt, ho := { s.ho with
      frames := min 65535 (s.ho.frames + 1) } }
    have hu : s.endFrame = u.setPhase .align := by
      rw [endFrame_eq hmode, hstep, counted_held (by rw [hphase]; rfl)]
      exact if_pos hphase
    obtain ⟨pages, hq, hm⟩ := setPhase_eq u .align
    obtain ⟨p, he, hmarks, -⟩ := stepped_by (congrArg (finish s) (hu.trans hq)) (OnlyMarks.congr hm (by rfl))
    exact ⟨_, he, rfl, rfl, rfl, rfl, hmarks⟩
  · rw [if_neg h, ← hphase]
    rw [if_neg (mt hstands.1 h)] at hstep
    exact frameEnd_stays hmode (by rw [hphase]; rfl) hstep (.inl ⟨rfl, rfl⟩)

/-! #### P stays within the monitor window (R92, R95) -/

/-- A step toward a target goes no further than the step allows, and stays between bounds that hold both. -/
theorem stepToward_bounds {x target k lo hi : Nat} (hx : lo ≤ x ∧ x ≤ hi) (ht : lo ≤ target ∧ target ≤ hi) :
    lo ≤ stepToward x target k ∧ stepToward x target k ≤ hi ∧ stepToward x target k ≤ x + k ∧
      x ≤ stepToward x target k + k := by
  unfold stepToward clampInt
  split
  · omega
  · split <;> omega

/-- P within the monitor window of a raster. -/
def Raster.InWindow (r : Raster) (p : Nat) : Prop := r.pMin ≤ p ∧ p ≤ r.pMax

/-- From one raster to another P has moved by at most the glide step and stands in the monitor window; the mode, the window
and the glide values are the same. -/
structure Raster.Moved (r q : Raster) : Prop where
  mode : q.mode = r.mode
  pMin : q.pMin = r.pMin
  pMax : q.pMax = r.pMax
  glide : q.glide = r.glide
  pendingGlide : q.pendingGlide = r.pendingGlide
  window : r.InWindow q.p
  up : q.p ≤ r.p + r.glide.g
  down : r.p ≤ q.p + r.glide.g

/-- A frame end that does not step P. -/
theorem moved_of_same {r q : Raster} (h : r.InWindow r.p) (hp : q.p = r.p) (hmode : q.mode = r.mode)
    (hmin : q.pMin = r.pMin) (hmax : q.pMax = r.pMax) (hg : q.glide = r.glide)
    (hpend : q.pendingGlide = r.pendingGlide) : r.Moved q :=
  ⟨hmode, hmin, hmax, hg, hpend, by rwa [hp], by omega, by omega⟩

/-- A frame end that steps P toward a line period of the window. -/
theorem moved_of_toward {r q : Raster} {x : Nat} (h : r.InWindow r.p) (hx : r.InWindow x)
    (hp : q.p = stepToward r.p x r.glide.g) (hmode : q.mode = r.mode) (hmin : q.pMin = r.pMin) (hmax : q.pMax = r.pMax)
    (hg : q.glide = r.glide) (hpend : q.pendingGlide = r.pendingGlide) : r.Moved q := by
  obtain ⟨hlow, hhigh, hup, hdown⟩ := stepToward_bounds (k := r.glide.g) h hx
  exact ⟨hmode, hmin, hmax, hg, hpend, by rw [hp]; exact ⟨hlow, hhigh⟩, by omega, by omega⟩

/-- A usable target's last stable P lies in the monitor window (R95). -/
theorem inWindow_of_usable {r : Raster} {rec : SyncRec} (h : r.unusable rec = none) : r.InWindow rec.lastP := by
  unfold Raster.unusable at h
  split at h
  · cases h
  · exact ⟨by omega, by omega⟩

theorem alignStep_moved {r : Raster} {rec : SyncRec} (h : r.InWindow r.p) (hx : r.InWindow rec.lastP)
    (target : Source) (stamp : Stamp) : r.Moved (r.alignStep target rec stamp).1 := by
  unfold Raster.alignStep
  extract_lets
  split
  · exact moved_of_toward h hx rfl rfl rfl rfl rfl rfl
  · split <;> exact moved_of_toward h hx rfl rfl rfl rfl rfl rfl

theorem targetStep_moved {r : Raster} (h : r.InWindow r.p) (phase : Phase) (target : Source) (rec : SyncRec)
    (stamp : Stamp) : r.Moved (r.targetStep phase target rec stamp).1 := by
  unfold Raster.targetStep
  split
  case h_1 => exact moved_of_same h rfl rfl rfl rfl rfl rfl
  case h_2 hu =>
    have hx := inWindow_of_usable hu
    split
    · exact moved_of_toward h hx rfl rfl rfl rfl rfl rfl
    · split
      · exact moved_of_toward h hx rfl rfl rfl rfl rfl rfl
      · exact alignStep_moved h hx target stamp

theorem step_moved {r : Raster} (h : r.InWindow r.p) (hrest : r.InWindow r.pRest) (phase : Phase)
    (target : Option (Source × SyncRec)) (stamp : Stamp) : r.Moved (r.step phase target stamp).1 := by
  unfold Raster.step
  split
  case h_1 => exact moved_of_toward h hrest rfl rfl rfl rfl rfl rfl
  case h_2 t rec =>
    obtain ⟨hmode, hmin, hmax, hg, hpend, hw, hup, hdown⟩ :=
      targetStep_moved (r := { r with alignCount := 0 }) h .glide t rec stamp
    exact ⟨hmode, hmin, hmax, hg, hpend, hw, hup, hdown⟩
  case h_3 t rec => exact targetStep_moved h .align t rec stamp
  all_goals exact moved_of_same h rfl rfl rfl rfl rfl rfl

/-- Only a target in GLIDE or ALIGN is found out of the window (R91, R95). -/
theorem step_outOfWindow {r : Raster} {phase : Phase} {target : Option (Source × SyncRec)} {stamp : Stamp}
    (h : (r.step phase target stamp).2 = .outOfWindow) : phase.beforeCut = true := by
  unfold Raster.step at h
  split at h
  case h_2 | h_3 | h_4 => rfl
  all_goals cases h

/-- From `s` to `t` the raster keeps all but its cut arm. -/
def KeepsRaster (s t : State) : Prop := ∃ arm, t.raster = { s.raster with cutArm := arm }

theorem KeepsRaster.trans {u : State} (h : KeepsRaster s t) (k : KeepsRaster t u) : KeepsRaster s u := by
  obtain ⟨a, ha⟩ := h
  obtain ⟨b, hb⟩ := k
  exact ⟨b, hb.trans (by rw [ha])⟩

theorem KeepsRaster.of_eq (h : t.raster = s.raster) : KeepsRaster s t := ⟨s.raster.cutArm, h⟩

theorem setPhase_keepsRaster (s : State) (p : Phase) : KeepsRaster s (s.setPhase p) := by
  obtain ⟨pages, hq, -⟩ := setPhase_eq s p
  exact ⟨_, (congrArg State.raster hq).trans rfl⟩

theorem failToFallback_keepsRaster (s : State) (reason : FailReason) : KeepsRaster s (s.failToFallback reason) := by
  have hactive : (s.completeActive .targetFailed reason.code s.switchData).raster = s.raster := by
    unfold State.completeActive
    split
    · exact complete_raster ..
    · rfl
  have hwithdraw (u : State) : u.withdrawTarget.raster = u.raster := by
    rw [withdrawTarget_eq]
  have hmenu (u : State) : KeepsRaster u u.judgeMenu := by
    unfold State.judgeMenu
    split
    · exact setPhase_keepsRaster u .glide
    · exact .of_eq rfl
  let v := (s.completeActive .targetFailed reason.code s.switchData).withdrawTarget
  let u : State := { v with ho := { v.ho with
    kind := .fallback, target := some .menu, lastFallback := reason, cutFeed := false, carry := 0, active := none } }
  have hu : KeepsRaster s u := .of_eq ((hwithdraw _).trans hactive)
  exact (hu.trans (setPhase_keepsRaster u .waitTarget)).trans (hmenu (u.setPhase .waitTarget))

/-- What the controller makes of a frame end's finding leaves the raster but for the arm (R97, R110). -/
theorem onFinding_keepsRaster {f : Finding} (h : f = .outOfWindow → s.ho.phase.beforeCut = true) :
    KeepsRaster s (s.onFinding f) := by
  unfold State.onFinding
  split
  case h_3 =>
    split
    · exact setPhase_keepsRaster ..
    · exact .of_eq rfl
  case h_5 =>
    split
    · have hc := h rfl
      have hr : ¬ s.ho.phase.beforeRelease = true := by
        cases hp : s.ho.phase <;> simp [hp, Phase.beforeCut, Phase.beforeRelease] at hc ⊢
      rw [State.targetFailure, if_neg hr, if_pos hc]
      exact failToFallback_keepsRaster ..
    · exact .of_eq rfl
  all_goals exact .of_eq rfl

/-- Whatever the phase, P stays in the window and moves by at most the glide step in force (R91, R92). -/
theorem frameEnd_bounded (hmode : s.raster.mode = .hold) (h : s.raster.InWindow s.raster.p)
    (hrest : s.raster.InWindow s.raster.pRest) :
    ∃ t, exec .holdingFrameEnd s = .next t ∧ s.raster.takeGlide.wrapFrame.Moved t.raster := by
  have hbegun : s.raster.takeGlide.wrapFrame.InWindow s.raster.takeGlide.wrapFrame.p ∧
      s.raster.takeGlide.wrapFrame.InWindow s.raster.takeGlide.wrapFrame.pRest := by
    rw [takeGlide_eq]
    exact ⟨h, hrest⟩
  obtain ⟨hmode', hmin, hmax, hg, hpend, hw, hup, hdown⟩ :=
    step_moved hbegun.1 hbegun.2 s.ho.phase s.stepTarget s.raster.frameEndAt
  have hcount : s.ho.counted.phase = s.ho.phase := by
    unfold HandOver.counted
    split <;> rfl
  obtain ⟨arm, harm⟩ := onFinding_keepsRaster (f := s.frameStep.2)
    (s := { s with raster := s.frameStep.1, sync := s.sync.runOn s.raster.frameEndAt, ho := s.ho.counted })
    fun hf => (congrArg Phase.beforeCut hcount).trans (step_outOfWindow hf)
  refine ⟨_, (congrArg (finish s) (endFrame_eq hmode)).trans (finish_eq ..), ?_⟩
  refine (congrArg (Raster.Moved _) harm).mpr ?_
  exact ⟨hmode', hmin, hmax, hg, hpend, hw, hup, hdown⟩

/-- The alignment step arms the cut, rough or not, at L of the target (R94). -/
def Raster.armedStep (r : Raster) (target : Source) (rec : SyncRec) (stamp : Stamp) (rough : Bool) : Raster :=
  { r with
    p := r.alignP rec, l := rec.lastL, alignTarget := some target, alignCount := 0,
    cutArm := some ⟨target, rough, stamp⟩ }

/-- The alignment step moves L off the target's and raises the align count (R94). -/
def Raster.shiftedStep (r : Raster) (target : Source) (rec : SyncRec) (stamp : Stamp) : Raster :=
  { r with
    p := r.alignP rec, alignTarget := some target, alignCount := r.raisedAlign target,
    l := ((rec.lastL : Int) - clampInt (alignmentError stamp rec) (-(r.glide.a : Int)) r.glide.a).toNat }

section
variable {r : Raster} {target : Source} {rec : SyncRec} {stamp : Stamp}

theorem alignStep_aligned (he : (alignmentError stamp rec).natAbs ≤ 1) :
    r.alignStep target rec stamp = (r.armedStep target rec stamp false, .armed false) := if_pos he

theorem alignStep_limit (he : 1 < (alignmentError stamp rec).natAbs) (hn : r.glide.limit ≤ r.raisedAlign target) :
    r.alignStep target rec stamp = (r.armedStep target rec stamp true, .armed true) :=
  (if_neg (Nat.not_le.2 he)).trans (if_pos hn)

theorem alignStep_shifted (he : 1 < (alignmentError stamp rec).natAbs) (hn : r.raisedAlign target < r.glide.limit) :
    r.alignStep target rec stamp = (r.shiftedStep target rec stamp, .nothing) :=
  (if_neg (Nat.not_le.2 he)).trans (if_neg (Nat.not_le.2 hn))
end

/-- Settles O53: each clause is the frame end of its phase; the last bounds every one of them. -/
theorem holdingRasterSteps : Obligations.HoldingRasterSteps := by
  intro s hmode
  refine ⟨fun hb => ?_, fun hb hl => ?_, fun hphase hg => ?_, fun hphase hf => frameEnd_waitTarget hmode hphase hf,
    ?_, fun hlow hhigh hrlow hrhigh => ?_⟩
  · obtain ⟨t, he, hr, ht⟩ := lineStart_steps hmode (.inl hb)
    refine ⟨t, he, hr.trans ?_, ht⟩
    simp [Raster.nextLine, hb, Raster.beginLine]
  · obtain ⟨t, he, hr, ht⟩ := lineStart_steps hmode (.inr hl)
    refine ⟨t, he, hr.trans ?_, ht⟩
    simp [Raster.nextLine, hb, Raster.beginLine, Raster.lineEnd]
  · obtain ⟨t, he, hr, ht⟩ := frameEnd_quiet hmode hphase hg
    exact ⟨t, he, congrArg Raster.p hr, congrArg Raster.l hr, congrArg Raster.lineIndex hr,
      congrArg Raster.alignCount hr, ht⟩
  · intro target htarget hg record ended stepped hs hlow hhigh
    refine ⟨fun hphase => ?_, fun hphase => ?_⟩
    · obtain ⟨t, he, hr, hho, ht, hrec, hm⟩ := frameEnd_glide hmode hphase (tm := ⟨record.lastP, record.lastL⟩)
        (frameStep_glide hphase htarget hg hs hlow hhigh)
      exact ⟨t, he, hr, hho, ht, hrec, hm⟩
    · intro p d raw e count aligned
      have hp : s.ho.phase.beforeCut = true := by rw [hphase]; rfl
      have hstay {r : Raster} {f : Finding} {rough : Bool} (hstep : s.frameStep = (r, f))
          (hf : f = .nothing ∧ rough = s.ho.rough ∨ f = .armed rough) :
          ∃ t, exec .holdingFrameEnd s = .next t ∧ stepped t r rough .align := by
        obtain ⟨t, he, hr, hho, ht, hrec, hm⟩ := frameEnd_stays hmode hp hstep hf
        exact ⟨t, he, hr, hphase ▸ hho, ht, hrec, hm⟩
      obtain ⟨harmed, hunarmed⟩ := frameStep_align hphase htarget hg hs hlow hhigh
      refine ⟨fun arm harm => hstay (harmed arm harm) (.inr rfl), fun harm => ⟨fun he => ?_, fun he hn => ?_,
        fun he hn => ?_⟩⟩
      · exact hstay ((hunarmed harm).trans (alignStep_aligned he)) (.inr rfl)
      · exact hstay ((hunarmed harm).trans (alignStep_limit he hn)) (.inr rfl)
      · exact hstay ((hunarmed harm).trans (alignStep_shifted he hn)) (.inl ⟨rfl, rfl⟩)
  · obtain ⟨t, he, hm⟩ := frameEnd_bounded hmode ⟨hlow, hhigh⟩ ⟨hrlow, hrhigh⟩
    rw [takeGlide_eq] at hm
    obtain ⟨hmode', hmin, hmax, hg, hpend, ⟨hwlow, hwhigh⟩, hup, hdown⟩ := hm
    refine ⟨t, he, hmode'.trans hmode, ?_, ?_, ?_, ?_, hpend, hg⟩
    · rwa [hmin]
    · rwa [hmax]
    · rwa [hg]
    · rwa [hg]
end
end Sys2Proof.Machine
end

section
namespace Sys2Proof.Machine

/-! ### A step of the ramp, and what the controller makes of the level it reaches (R105, R113, R136, R179, R180) -/

section
variable {s : State}

/-- With the crosspoint on the wanted selection a ramp step moves the level alone, and announces it (R176, R179). -/
theorem rampTick_moves (hx : s.audio.crosspoint = s.audio.wanted) (hd : s.audio.current ≠ s.audio.target)
    (hr : 0 < s.audio.ramp) : s.rampTick = ({ s with audio := { s.audio with
      current := rampToward s.audio.current s.audio.target s.audio.ramp } } : State).levelReached := by
  have hdue : s.rampDue = true := by simp [State.rampDue, hd, hr.ne']
  have hstay : s.rampOnce = { s with audio := { s.audio with
      current := rampToward s.audio.current s.audio.target s.audio.ramp } } := if_neg fun hc => hc.1 hx
  rw [State.rampTick, if_pos hdue, hstay]

/-- Outside FADE_OUT and FADE_IN, and short of the target, the controller makes nothing of the level (R180). -/
theorem levelReached_idle
    (h : s.ho.phase ≠ .fadeOut ∧ s.ho.phase ≠ .fadeIn ∨ s.audio.current ≠ s.audio.target) : s.levelReached = s := by
  rcases h with ⟨hout, hin⟩ | hshort
  · have hannounced : s.levelAnnounced = s := by
      unfold State.levelAnnounced
      split
      · split
        · next hp => exact absurd hp hout
        · next hp => exact absurd hp hin
        · rfl
      · rfl
    rw [State.levelReached, if_neg fun hc => hin hc.1, hannounced]
  · exact levelReached_short hshort

/-- Level zero ends FADE_OUT (R105). -/
theorem levelReached_fadeOut (hp : s.ho.phase = .fadeOut) (ht : s.audio.target = 0) (hl : s.audio.current = 0) :
    s.levelReached = s.enterRelease := by
  simp [State.levelReached, State.levelAnnounced, hp, ht, hl]

/-- RELEASE with the generator in PASS: the outgoing's release is ordered and its timer started (R88, R105). -/
theorem enterRelease_pass (hmode : s.raster.mode = .pass) : ∃ pages, s.enterRelease = { s with
    pages := pages, ho := { s.ho with phase := .release, releaseTimer := some 100 },
    raster := { s.raster with cutArm := none, releaseOrder := s.ho.outgoing } } ∧
    OnlyMarks s { s with pages := pages } := by
  obtain ⟨pages, hq, hm⟩ := setPhase_eq s .release
  refine ⟨pages, ?_, hm⟩
  rw [State.enterRelease, hq, if_pos hmode]
  rfl

/-- Source 0 in stable sync and a slot that is not LOST stand on air as they should (R136). -/
theorem onAirUnstable_none {src : Source} (hair : s.ho.onAir = some src)
    (hmenu : src = .menu → (s.record .menu).stable = true) (hslot : ∀ i, src = .slot i → (s.slot i).state ≠ .lost) :
    s.onAirUnstable = none := by
  unfold State.onAirUnstable
  rw [hair]
  cases src with
  | menu => exact if_pos (hmenu rfl)
  | slot i => exact if_neg (hslot i rfl)

/-- The end of FADE_IN with the source on air in stable sync: the job ends, and the hand-over is at rest (R100, R113). -/
theorem fadeInEnd_rests {src : Source} (hair : s.ho.onAir = some src)
    (hmenu : src = .menu → (s.record .menu).stable = true) (hslot : ∀ i, src = .slot i → (s.slot i).state ≠ .lost) :
    ∃ pages, s.fadeInEnd = ({ s with
      pages := pages, ho := s.ho.rested, raster := { s.raster with cutArm := none } }).completeEach
        (s.fadeInEnds src) ∧ OnlyMarks s { s with pages := pages } := by
  obtain ⟨pages, hq, hm⟩ := toQuiet_marks { s with ho.active := none }
  rw [hq] at hm
  have hquiet : s.completeActiveOk.toQuiet = ({ s with
      pages := pages, ho := s.ho.rested, raster := { s.raster with cutArm := none } }).completeEach (s.fadeInEnds src) := by
    rw [completeActiveOk_eq hair, toQuiet_beside.completeEach, hq]
    rfl
  have hsteady : s.completeActiveOk.toQuiet.onAirUnstable = none := by
    rw [hquiet, completeEach_frame]
    exact onAirUnstable_none hair hmenu hslot
  refine ⟨pages, ?_, OnlyMarks.congr hm (by rfl)⟩
  rw [State.fadeInEnd, returnToQuiet_stable hsteady, hquiet]

/-- Settles O60: the step moves the level, and each clause is what the controller makes of the announcement. -/
theorem rampStepMoves : Obligations.RampStepMoves := by
  intro s hx hd hr level
  let u : State := { s with audio := { s.audio with current := level } }
  have hstep {m : State} (hm : u.levelReached = m) : exec .rampStep s = finish s m :=
    congrArg (finish s) ((rampTick_moves hx hd hr).trans hm)
  refine ⟨fun hidle => ?_, fun hphase htarget hlevel hmode => ?_,
    fun src hphase hlevel hair hwaiting hmenu hslot hwf hheld => ?_⟩
  · obtain ⟨p, he, hmarks, -⟩ := stepped_by (hstep (levelReached_idle (s := u) hidle)) ((OnlyMarks.refl s).congr rfl)
    exact ⟨_, he, rfl, rfl, hmarks⟩
  · obtain ⟨pages, hq, hm⟩ := enterRelease_pass (s := u) hmode
    obtain ⟨p, he, hmarks, -⟩ := stepped_by
      (hstep ((levelReached_fadeOut (s := u) hphase htarget hlevel).trans hq)) (OnlyMarks.congr hm (by rfl))
    exact ⟨_, he, congrArg (fun n => { s.audio with current := n }) hlevel, rfl, rfl, rfl, hmarks⟩
  · obtain ⟨pages, hq, hm⟩ := fadeInEnd_rests (s := u) hair hmenu hslot
    have hdone : u.levelReached = _ := (levelReached_fadeIn (s := u) hlevel hphase).trans <|
      (congrArg State.takeUpWaiting hq).trans (takeUpWaiting_none (by rw [completeEach_frame]; exact hwaiting))
    obtain ⟨w, n, p, he, hjobs, -⟩ := ended_by (hstep hdone) hwf rfl rfl (OnlyMarks.congr hm (by rfl))
      (by rw [fadeInEnds_cells]; exact hheld)
    exact ⟨_, he, congrArg (fun n => { s.audio with current := n }) hlevel, hjobs, rfl, rfl, rfl⟩

end
end Sys2Proof.Machine
end

section
namespace Sys2Proof.Machine

/-! ### Entry to FADE_OUT, and the exit chord (R105, R122, R156, R157, R178) -/

section
variable {s : State} {i : Slot}

/-- In FADE_OUT the target is 0, and a level above it with a ramp stays where it stands (R178, R179). -/
theorem recomputeAudio_fadeOut (hp : s.ho.phase = .fadeOut) (hl : 0 < s.audio.current) (hr : 0 < s.audio.ramp) :
    s.recomputeAudio = { s with audio := { s.audio with target := 0 } } := by
  have ht : s.audioTarget = 0 := by
    unfold State.audioTarget
    split
    · rfl
    · exact if_pos (.inl hp)
  have hretarget : s.retarget = { s with audio := { s.audio with target := 0 } } := by
    rw [State.retarget, if_neg hr.ne', ht]
  rw [State.recomputeAudio, hretarget]
  exact if_neg fun hc => hl.ne' hc.2

/-- Entry to FADE_OUT at a level above 0 with a ramp: the feed of the outgoing recorded and closed, the pins idle, the level
on its way to 0 (R105, R149, R165, R167, R178). -/
theorem enterFadeOut_heard (src : Source) (hl : 0 < s.audio.current) (hr : 0 < s.audio.ramp) :
    ∃ pages, s.enterFadeOut src = { s with
      pages := pages,
      ho := { s.ho with
        phase := .fadeOut, outgoing := some src, outgoingFeed := (s.recordFeed src).ho.outgoingFeed },
      raster := { s.raster with cutArm := none }, credit := (s.recordFeed src).credit,
      audio := { s.audio with target := 0 },
      router := { s.router with driven := none, entries := [], activePins := 0, chordFreeze := false } } ∧
      OnlyMarks s { s with pages := pages } := by
  obtain ⟨pages, hq, hm⟩ := setPhase_eq s .fadeOut
  let v : State := { s with
    pages := pages,
    ho := { s.ho with
      phase := .fadeOut, outgoing := some src, outgoingFeed := (s.recordFeed src).ho.outgoingFeed },
    raster := { s.raster with cutArm := none }, credit := (s.recordFeed src).credit,
    router := { s.router with driven := none, entries := [], activePins := 0, chordFreeze := false } }
  have hleft : s.enterFadeOut src = v.recomputeAudio.levelAnnounced := by
    rw [State.enterFadeOut, hq]
    cases src <;> rfl
  refine ⟨pages, ?_, hm⟩
  rw [hleft, recomputeAudio_fadeOut (s := v) rfl hl hr]
  exact if_neg hl.ne'

/-- The exit chord of the slot on air in QUIET is detected, and with RETURN handed to the controller (R156). -/
theorem exitChord_detected (hair : s.ho.onAir = some (.slot i)) (hphase : s.ho.phase = .quiet)
    (hhold : s.router.restartHold = false) (hlatch : s.router.chordLatch = false)
    (hmask : s.router.inputs &&& s.router.chordMask = s.router.chordMask) :
    s.exitChord = if s.router.chordReturn then s.chordDetected.chordFallback i else s.chordDetected := by
  have hruns : s.chordRuns = true := by simp [State.chordRuns, hair, hphase, hhold, hlatch]
  have hheld : s.router.chordHeld = true := decide_eq_true hmask
  simp only [State.exitChord, hair, hruns, hheld, Bool.and_self, if_true]

theorem chordDetected_marks (s : State) : OnlyMarks s s.chordDetected :=
  ((OnlyMarks.refl s).mark .cabinet).congr rfl

/-- The chord with RETURN: a FALLBACK with reason CHORD leaves the on-air slot through FADE_OUT (R105, R122). -/
theorem chordFallback_heard (hl : 0 < s.audio.current) (hr : 0 < s.audio.ramp) :
    ∃ pages, s.chordFallback i = { s with
      pages := pages,
      ho := { s.ho with
        phase := .fadeOut, kind := .fallback, outgoing := some (.slot i), target := some .menu, active := none,
        frames := 0, rough := false, cutFeed := false, carry := 0, cancelled := false, lastFallback := .chord,
        outgoingFeed := s.credit.feed.get i },
      raster := { s.raster with cutArm := none }, credit := (s.leaveAir i).credit,
      audio := { s.audio with target := 0 },
      router := { s.router with driven := none, entries := [], activePins := 0, chordFreeze := false } } ∧
      OnlyMarks s { s with pages := pages } :=
  enterFadeOut_heard (s := { s with ho := { s.ho with
    kind := .fallback, target := some .menu, active := none, frames := 0, rough := false, cutFeed := false, carry := 0,
    cancelled := false, lastFallback := .chord } }) (.slot i) hl hr

/-- Settles O57: the detection is common to both actions; RETURN goes on to FADE_OUT, which ends the freeze. -/
theorem exitChordDetected : Obligations.ExitChordDetected := by
  intro s i hair hphase hhold hlatch hmask
  have hexit := exitChord_detected hair hphase hhold hlatch hmask
  have hm := chordDetected_marks s
  refine ⟨fun hnotify => ?_, fun hreturn hl hr => ?_⟩
  · rw [hnotify] at hexit
    obtain ⟨p, he, hmarks, hkeep⟩ := stepped_by (congrArg (finish s) hexit) hm
    exact ⟨_, he, rfl, rfl, hkeep .cabinet rfl, rfl, hmarks⟩
  · rw [hreturn] at hexit
    obtain ⟨pages, hq, hm'⟩ := chordFallback_heard (s := s.chordDetected) (i := i) hl hr
    obtain ⟨p, he, hmarks, -⟩ := stepped_by (congrArg (finish s) (hexit.trans hq))
      (OnlyMarks.congr (hm.trans hm') (by rfl))
    exact ⟨_, he, rfl, rfl, rfl, rfl, PerSlot.get_set_same .., PerSlot.get_set_same .., rfl, rfl, hmarks⟩

end
end Sys2Proof.Machine
end

section
namespace Sys2Proof.Machine

/-! ### A SWITCH with a source on air or a hand-over in flight (R102 to R104, R114 to R116) -/

section
variable {s : State} {j : SwitchJob} {target : Source}

/-- A target that passes its checks with no power-up (R103): source 0, a RUNNING slot whose last stable P the monitor
accepts, or a LOST slot. -/
def NeedsNoPower (s : State) (target : Source) : Prop := target = .menu ∨ ∃ i, target = .slot i ∧
  ((s.slot i).state = .running ∧ s.fitsMonitor target = true ∨ (s.slot i).state = .lost)

theorem Reaches.needsNoPower {p : Phase} (h : Reaches s target p) : NeedsNoPower s target := by
  cases target with
  | menu => exact .inl rfl
  | slot i =>
    refine .inr ⟨i, rfl, ?_⟩
    rcases h with ⟨⟨hrun, -, hfits⟩, -⟩ | ⟨hlost | ⟨hrun, -, hfits⟩, -⟩
    · exact .inl ⟨hrun, hfits⟩
    · exact .inr hlost
    · exact .inl ⟨hrun, hfits⟩

/-- The checks pass at once onto a target that needs no power-up and is not on air (R103). -/
theorem prepare_unpowered (hair : s.ho.onAir ≠ some j.target) (h : NeedsNoPower s j.target) :
    s.prepare j = (.passed false 0, s) := by
  unfold State.prepare
  rw [if_neg hair]
  rcases h with ht | ⟨i, ht, h⟩
  · rw [ht]
  · rw [ht] at h ⊢
    rcases h with ⟨hrun, hfits⟩ | hlost
    · simp only [State.prepareSlot, hrun, hfits, if_true]
    · simp only [State.prepareSlot, hlost]

/-- The checks pass back to the source still on air (R103, R114). -/
theorem prepare_back (hair : s.ho.onAir = some j.target) (hp : s.ho.phase ≠ .prepare) :
    s.prepare j = (.passed false 0, s) := by
  rw [State.prepare, if_pos hair, if_neg hp]

/-- The pin flag reads and changes the slots alone (R39). -/
theorem applyPin_over {t : State} (h : t.slots = s.slots) (j : SwitchJob) :
    t.applyPin j = { t with slots := (s.applyPin j).slots } := by
  obtain ⟨pending, window, intake, pages, slots⟩ := t
  subst h
  unfold State.applyPin
  split
  · split <;> rfl
  · rfl

/-! #### From QUIET into FADE_OUT -/

/-- The hand-over that a job starts from a source on air (R104, R105). -/
def HandOver.leaving (h : HandOver) (j : SwitchJob) (src : Source) (feed : Bool) : HandOver := { h with
  phase := .fadeOut, kind := .requested, outgoing := some src, target := some j.target, active := some j, frames := 0,
  rough := false, cold := false, fromHold := false, evicted := 0, cutFeed := j.feed, carry := j.carry,
  cancelled := false, outgoingFeed := feed }

theorem startHandOver_fromAir {src : Source} (hair : s.ho.onAir = some src) (hl : 0 < s.audio.current)
    (hr : 0 < s.audio.ramp) : ∃ pages, s.startHandOver j false 0 = { s with
      pages := pages, ho := s.ho.leaving j src (s.recordFeed src).ho.outgoingFeed,
      raster := { s.raster with cutArm := none }, credit := (s.recordFeed src).credit,
      audio := { s.audio with target := 0 },
      router := { s.router with driven := none, entries := [], activePins := 0, chordFreeze := false } } ∧
      OnlyMarks s { s with pages := pages } := by
  let v : State := { s.adopt j false 0 with ho.target := some j.target, ho.frames := 0, ho.cancelled := false }
  obtain ⟨pages, hq, hm⟩ := enterFadeOut_heard (s := v) src hl hr
  have hstart : s.startHandOver j false 0 = v.enterFadeOut src := by
    unfold State.startHandOver
    dsimp only
    split
    · next other h => rw [Option.some.inj (hair.symm.trans h)]
    · next h => exact absurd (hair.symm.trans h) (by simp)
  refine ⟨pages, ?_, hm⟩
  have hfrom : s.ho.onAir.isNone = false := by rw [hair]; rfl
  rw [hstart, hq]
  simp only [v, State.adopt, hfrom]
  cases src <;> rfl

/-- A SWITCH in QUIET to a target that needs no power-up, away from a source heard at a level above 0 with a ramp (R102 to
R105). -/
theorem switchInQuiet_leaves {src : Source} (hair : s.ho.onAir = some src) (hne : src ≠ j.target)
    (hwarm : NeedsNoPower s j.target) (hl : 0 < s.audio.current) (hr : 0 < s.audio.ramp) :
    ∃ pages, s.switchInQuiet j = { s with
      pages := pages, slots := (s.applyPin j).slots, ho := s.ho.leaving j src (s.recordFeed src).ho.outgoingFeed,
      raster := { s.raster with cutArm := none }, credit := (s.recordFeed src).credit,
      audio := { s.audio with target := 0 },
      router := { s.router with driven := none, entries := [], activePins := 0, chordFreeze := false } } ∧
      OnlyMarks s { s with pages := pages } := by
  obtain ⟨p₁, hq₁, hm₁⟩ := setPhase_eq s .prepare
  let w : State := s.preparing p₁
  have hprep : (s.setPhase .prepare).prepare j = (.passed false 0, w) := by
    rw [hq₁]
    exact prepare_unpowered (s := w) (fun h => hne (Option.some.inj (hair.symm.trans h))) hwarm
  obtain ⟨p₂, hq₂, hm₂⟩ := startHandOver_fromAir (s := { w with slots := (s.applyPin j).slots }) (j := j) hair hl hr
  refine ⟨p₂, ?_, hm₁.trans hm₂⟩
  rw [switchInQuiet_passed hprep, applyPin_over (t := w) (s := s) rfl, hq₂]
  cases src <;> rfl

/-! #### Before the cut -/

/-- The hand-over once a passing job has taken it over (R104, R114). -/
def HandOver.takenOver (h : HandOver) (j : SwitchJob) : HandOver := { h with
  kind := .requested, active := some j, rough := false, cold := false, fromHold := h.onAir.isNone, evicted := 0,
  cutFeed := j.feed, carry := j.carry }

theorem adopt_eq (s : State) (j : SwitchJob) : s.adopt j false 0 = { s with ho := s.ho.takenOver j } := rfl

/-- Where the job that has taken the hand-over over leads it (R114): back to the source on air, on to the target it has, or
to another. -/
def State.redirect (s : State) (target : Source) : State :=
  if s.ho.onAir = some target then s.cancel else if s.ho.target = some target then s else s.retargetTo target

theorem replaceActive_eq (s : State) (j : SwitchJob) (cold : Bool) (mask : Word) : s.replaceActive j cold mask =
    ((s.completeActive .superseded 0 s.switchData).adopt j cold mask).redirect j.target := rfl

/-- Before release, or at the target it has, the hand-over goes on in its phase (R114). -/
theorem redirect_goesOn (hair : s.ho.onAir ≠ some target)
    (h : s.ho.target = some target ∨ s.ho.phase.beforeRelease = true ∧ NothingPending s) :
    s.redirect target = { s with ho := { s.ho with target := some target } } := by
  rw [State.redirect, if_neg hair]
  by_cases ht : s.ho.target = some target
  · rw [if_pos ht, ← ht]
  · obtain ⟨hp, hnone⟩ := h.resolve_left ht
    rw [if_neg ht, State.retargetTo, withdrawTarget_nothing hnone]
    exact if_pos hp

theorem beforeRelease_of_beforeCut {p : Phase} (h : p.beforeCut = true) : p.beforeRelease = false := by
  cases p <;> simp_all [Phase.beforeCut, Phase.beforeRelease]

/-- Between release and cut another target is judged anew (R108, R109, R114). -/
theorem redirect_judged {p : Phase} (hair : s.ho.onAir ≠ some target) (ht : s.ho.target ≠ some target)
    (hp : s.ho.phase.beforeCut = true) (hnone : NothingPending s) (hreach : Reaches s target p) :
    ∃ pages, s.redirect target = { s with
      pages := pages, ho := { s.ho with target := some target, phase := p },
      raster := { s.raster with cutArm := none } } ∧ OnlyMarks s { s with pages := pages } := by
  let v : State := { s with ho := { s.ho with target := some target } }
  have hjudged : s.redirect target = (v.setPhase .waitTarget).judge := by
    rw [State.redirect, if_neg hair, if_neg ht, State.retargetTo, withdrawTarget_nothing hnone]
    exact if_neg (by rw [beforeRelease_of_beforeCut hp]; decide)
  obtain ⟨p₁, hq₁, hm₁⟩ := setPhase_eq v .waitTarget
  obtain ⟨p₂, hq₂, hm₂⟩ := judge_reaches (t := { v with
      pages := p₁, ho := { v.ho with phase := .waitTarget }, raster := { s.raster with cutArm := none } }) rfl rfl rfl
    (hreach.congr (fun _ => rfl) (fun _ => rfl) fun _ => rfl)
  refine ⟨p₂, ?_, OnlyMarks.trans hm₁ hm₂⟩
  rw [hjudged, hq₁]
  exact hq₂

/-- The cabinet given back to the source on air, which fades in again (R115, R149, R165, R178). -/
def State.givenBack (s : State) (src : Source) : State := { s with
  ho := { s.ho with
    phase := .fadeIn, outgoing := none, target := some src, kind := .requested, releaseTimer := none, cancelled := true },
  raster := { s.raster with releaseOrder := none, cutArm := none },
  router := s.router.driveSource src,
  audio := { s.audio with target := levelFormula s.audio.master (s.audio.ratios.get src) s.audio.floor },
  credit := s.credit.givenBack src s.ho.outgoingFeed }

/-- Back to the source on air, heard at another level than its own, the hand-over is cancelled (R115). -/
theorem redirect_back (hair : s.ho.onAir = some target) (hout : s.ho.outgoing = some target) (hh : HeardAt s target)
    (hnone : NothingPending s) : ∃ pages, s.redirect target = { s.givenBack target with pages := pages } ∧
      OnlyMarks s { s with pages := pages } := by
  obtain ⟨pages, hc⟩ := cancel_heard hout hh
  have hm := (OnlyMarks.refl s).cancel_heard hout hh
  rw [hc] at hm
  rw [withdrawTarget_nothing hnone] at hc
  exact ⟨pages, (if_pos hair).trans hc, OnlyMarks.congr hm (by rfl)⟩

theorem takenOver_beside (j : SwitchJob) : BesideJobs fun t : State => { t with ho := t.ho.takenOver j } :=
  ⟨fun _ => rfl, fun _ => rfl, fun _ _ _ => rfl⟩

/-- The active job ends, and beside that end the job that takes its hand-over over leads it to `m` (R114). -/
theorem replaceActive_ends {m : State} (hwin : m.window = s.window) (hint : m.intake = s.intake)
    (hnext : ∀ w n, ∃ pages,
      ({ s with window := w, intake := n, ho := s.ho.takenOver j } : State).redirect j.target =
        { m with window := w, intake := n, pages := pages } ∧ OnlyMarks s { s with pages := pages }) :
    ∃ pages, s.replaceActive j false 0 = ({ m with pages := pages }).completeEach (s.activeEnds .superseded) ∧
      OnlyMarks s { s with pages := pages } := by
  let v : State := { s with ho := s.ho.takenOver j }
  have hadopted : (s.completeActive .superseded 0 s.switchData).adopt j false 0 =
      v.completeEach (s.activeEnds .superseded) := by
    rw [completeActive_ends, adopt_eq]
    exact (takenOver_beside j).completeEach ..
  obtain ⟨pages, hq, hm⟩ := hnext (v.completeEach (s.activeEnds .superseded)).window
    (v.completeEach (s.activeEnds .superseded)).intake
  refine ⟨pages, ?_, hm⟩
  rw [replaceActive_eq, hadopted, completeEach_frame]
  exact hq.trans (completeEach_of (v := v) (m := { m with pages := pages }) hwin hint)

/-- In FADE_IN the job waits, and one that waited ends (R116). -/
theorem makeWait_ends (s : State) (j : SwitchJob) : s.makeWait j =
    ({ s with ho.waiting := some j }).completeEach (s.waitingEnds .superseded) := by
  have hb : BesideJobs fun t : State => { t with ho.waiting := some j } :=
    ⟨fun _ => rfl, fun _ => rfl, fun _ _ _ => rfl⟩
  refine Eq.trans ?_ (hb.completeEach ..)
  unfold State.makeWait State.waitingEnds
  cases s.ho.waiting <;> rfl

/-- The phases before the cut in which a SWITCH is checked while its hand-over goes on (R102, R114). -/
theorem takeSwitch_inFlight (h : s.ho.phase = .fadeOut ∨ s.ho.phase = .release ∨ s.ho.phase.beforeCut = true)
    (hprep : s.prepare j = (.passed false 0, s)) : s.takeSwitch j = (s.applyPin j).replaceActive j false 0 := by
  have hflight : s.takeSwitch j = s.switchInFlight j := by
    unfold State.takeSwitch
    cases hp : s.ho.phase <;> simp_all [Phase.beforeCut]
  rw [hflight]
  simp only [State.switchInFlight, hprep]

end

section
variable {s : State} {j : Job} {target : Source}

/-- A job of the hand-over, beside the one being taken, is TAKEN and ends once. -/
theorem heldBeside_owned {a : Option SwitchJob} (h : HeldBeside s j a) {f : SwitchJob → Ending}
    (hf : ∀ k, (f k).cell = k.cell) : ((a.toList.map f).map Ending.cell).Nodup ∧
      ∀ e, e ∈ a.toList.map f → (s.take j.cell).cell e.cell = .taken := by
  obtain ⟨hnd, htaken⟩ := heldBeside_ends h hf (e := ⟨j.cell, .ok, 0, []⟩) rfl
  rw [List.map_append] at hnd
  exact ⟨hnd.of_append_left, fun e he => htaken e (List.mem_append_left _ he)⟩

theorem isKind_due {n : Nat} (h : j.word 0 = n) : Job.isKind n j = true := decide_eq_true h

theorem switchJob_target (ht : Source.ofNumber (j.word 2) = some target) (s : State) :
    switchJob j s = s.takeSwitch (j.toSwitch target) := by
  simp only [switchJob, ht]

/-- The state in which a job that has passed its checks leads the hand-over on, the end of the active job and the take
apart (R104, R114). -/
def State.takenOver (s : State) (j : SwitchJob) : State :=
  { s with slots := (s.applyPin j).slots, ho := s.ho.takenOver j }

/-- A SWITCH before the cut whose job passes at once, and leads the hand-over to `m` (R102, R114, R126). -/
theorem switch_takesOver {m : State} (hj : NextJob s j 1) (ht : Source.ofNumber (j.word 2) = some target)
    (hphase : s.ho.phase = .fadeOut ∨ s.ho.phase = .release ∨ s.ho.phase.beforeCut = true)
    (hheld : HeldBeside s j s.ho.active)
    (hprep : (s.take j.cell).prepare (j.toSwitch target) = (.passed false 0, s.take j.cell))
    (hwin : m.window = s.window)
    (hnext : ∀ w n, ∃ pages, ({ s.takenOver (j.toSwitch target) with window := w, intake := n } : State).redirect target =
      { m with window := w, intake := n, pages := pages } ∧ OnlyMarks s { s with pages := pages }) :
    ∃ w n p, exec .switch s = .next { m with window := w, intake := n, pages := p } ∧
      JobsEnd s { m with window := w, intake := n, pages := p } (s.taking j) (s.activeEnds .superseded) := by
  have ⟨hwf, hhead, hkind⟩ := hj
  let k := j.toSwitch target
  let u := s.take j.cell
  let v : State := { u with slots := (s.applyPin k).slots }
  have hpinned : u.applyPin k = v := applyPin_over (t := u) (s := s) rfl k
  obtain ⟨pages, hq, hm⟩ := replaceActive_ends (s := v) (j := k) (m := { m with intake := u.intake }) hwin rfl hnext
  have hact : switchJob j u = _ :=
    (switchJob_target ht u).trans <| (takeSwitch_inFlight (s := u) hphase hprep).trans <|
      (congrArg (State.replaceActive · k false 0) hpinned).trans hq
  obtain ⟨hnd, htaken⟩ := heldBeside_owned hheld (f := fun a : SwitchJob =>
    ⟨a.cell, .superseded, 0, [a.target.number, s.ho.frames, s.ho.evicted.toNat, 0]⟩) fun _ => rfl
  exact jobs_at_take (m := { m with intake := u.intake, pages := pages }) hwf hhead (isKind_due hkind) hact hwin rfl hm
    hnd htaken

/-- Settles O22: from QUIET the hand-over starts through FADE_OUT, before the cut the job takes it over, and in FADE_IN the
job waits. -/
theorem switchFadesOut : Obligations.SwitchFadesOut := by
  intro s j target hj ht job adopted warm
  let k := j.toSwitch target
  let u := s.take j.cell
  have ⟨hwf, hhead, hkind⟩ := hj
  have hmarks : OnlyMarks s u := (OnlyMarks.refl s).congr rfl
  have hpins : PinsTarget s (s.applyPin k) target (j.bit 4 2) := applyPin_pins s k
  have hnone (h : NothingPending s) (w : Window) (n : Intake) :
      NothingPending { s.takenOver k with window := w, intake := n } := fun i hi =>
    (congrArg SlotState.beforeCheck (applyPin_state s k i)).trans (h i hi)
  refine ⟨fun src hphase hair hne hwarm hl hr => ?_, fun hwarm hheld hair hp hto => ?_,
    fun p hreach hheld hair hp hto hpend => ?_, fun hh hheld hpend hair hout hp => ?_, fun hphase hheld => ?_⟩
  · obtain ⟨pages, hq, hm⟩ := switchInQuiet_leaves (s := u) (j := k) hair hne hwarm hl hr
    have hquiet : u.takeSwitch k = u.switchInQuiet k := by
      have hu : u.ho.phase = .quiet := hphase
      simp only [State.takeSwitch, hu]
    obtain ⟨p, he, hwait, -⟩ := waits_at_take hhead (isKind_due hkind)
      ((switchJob_target ht u).trans (hquiet.trans hq)) rfl rfl (OnlyMarks.congr (OnlyMarks.trans hmarks hm) (by rfl))
    have hfrom : s.ho.onAir.isNone = false := by rw [hair]; rfl
    refine ⟨_, he, hwait, ?_, ?_, rfl, rfl, rfl, applyPin_pins u k, rfl⟩
    · simp only [adopted, hfrom]
      cases src <;> rfl
    · cases src <;> rfl
  · have hon (w : Window) (n : Intake) : s.ho.target = some target ∨
        s.ho.phase.beforeRelease = true ∧ NothingPending { s.takenOver k with window := w, intake := n } := by
      rcases hto with h | hpend
      · exact .inl h
      · rcases hp with h | h | ⟨-, h⟩
        · exact .inr ⟨by rw [h]; rfl, hnone hpend w n⟩
        · exact .inr ⟨by rw [h]; rfl, hnone hpend w n⟩
        · exact .inl h
    obtain ⟨w, n, p, he, hjobs⟩ := switch_takesOver hj ht (hp.imp_right (Or.imp_right And.left)) hheld
      (prepare_unpowered (s := u) hair hwarm)
      (m := { s with slots := (s.applyPin k).slots, ho := { s.ho.takenOver k with target := some target } }) rfl
      fun w n => ⟨s.pages, redirect_goesOn hair (hon w n), OnlyMarks.refl s⟩
    exact ⟨_, he, hjobs, rfl, hpins, rfl⟩
  · obtain ⟨w, n, q, he, hjobs⟩ := switch_takesOver hj ht (.inr (.inr hp)) hheld
      (prepare_unpowered (s := u) hair hreach.needsNoPower)
      (m := { s with
        slots := (s.applyPin k).slots, ho := { s.ho.takenOver k with target := some target, phase := p },
        raster := { s.raster with cutArm := none } }) rfl
      fun w n => redirect_judged hair hto hp (hnone hpend w n)
        (hreach.congr (applyPin_state s k) (fun _ => rfl) fun _ => rfl)
    exact ⟨_, he, hjobs, rfl, rfl, hpins, rfl⟩
  · obtain ⟨w, n, q, he, hjobs⟩ := switch_takesOver hj ht (hp.imp_right .inl) hheld
      (prepare_back (s := u) hair (by rcases hp with h | h <;> simp [u, h]))
      (m := (s.takenOver k).givenBack target) rfl
      fun w n => redirect_back hair hout ⟨hh.wanted, hh.crosspoint, hh.ramp, hh.level⟩ (hnone hpend w n)
    refine ⟨_, he, hjobs, rfl, ⟨rfl, rfl, ?_, ?_, ?_⟩, hpins, rfl⟩ <;> cases target <;> rfl
  · have hu : u.ho.phase = .fadeIn := hphase
    have hact : switchJob j u = _ := (switchJob_target ht u).trans
      ((show u.takeSwitch k = u.makeWait k by simp only [State.takeSwitch, hu]).trans (makeWait_ends u k))
    obtain ⟨hnd, htaken⟩ := heldBeside_owned hheld (f := fun w : SwitchJob => ⟨w.cell, .superseded, 0, []⟩)
      fun _ => rfl
    obtain ⟨w, n, p, he, hjobs⟩ := jobs_at_take hwf hhead (isKind_due hkind) hact rfl rfl (hmarks.congr rfl) hnd htaken
    exact ⟨_, he, hjobs, rfl, rfl⟩

end
end Sys2Proof.Machine
end

section
namespace Sys2Proof.Machine

/-! ### The end of the start and the grace timer (R127, R128, R131, R132) -/

section
variable {s : State} {i : Slot}

/-- In QUIET the report of an expiry has nothing for the controller to act on (R127). -/
theorem controllerExpiry_quiet (h : s.ho.phase = .quiet) (i : Slot) (reason : FailReason) :
    s.controllerExpiry i reason = s := by
  simp only [State.controllerExpiry, h]

/-- A power-up without a POWER job has nobody to answer (R40). -/
theorem answerJob_jobless {q : SlotRec} (h : q.jobCell = none) (s : State) (i : Slot) (r : Result) (d : Nat)
    (mask : Word) : s.answerJob i q.powerUp r d mask = s := by
  rw [answerJob_completeEach, h]
  rfl

/-- The record of a slot after the restart decision, with this long on its cool timer (R34, R132). -/
def SlotRec.restartDecided (ms : Nat) (r : SlotRec) : SlotRec :=
  { r.cooling ms with
    restarts := r.restarts - 1, powerUp := if 0 < r.restarts then some ⟨none, none, true, 0⟩ else none }

/-- With no restarts left the slot only cools (R132). -/
theorem restartDecided_cases (ms : Nat) (r : SlotRec) : (if 0 < r.restarts then
    { r.cooling ms with restarts := r.restarts - 1, powerUp := some { PowerUp.blank with auto := true } }
    else r.cooling ms) = r.restartDecided ms := by
  unfold SlotRec.restartDecided
  split
  case isTrue => rfl
  case isFalse h =>
    have hzero : r.restarts = 0 := Nat.eq_zero_of_not_pos h
    simp only [SlotRec.cooling, hzero]

/-- The restart decision changes the slot's record and the warm list (R132). -/
theorem restartDecision_eq (s : State) (i : Slot) : s.restartDecision i = { s with
    slots := s.slots.set i ((s.slot i).restartDecided (s.figure i Descriptor.cool * 100)),
    warm := s.warm.erase i } := by
  have hslots : (s.restartDecision i).slots =
      s.slots.set i ((s.slot i).restartDecided (s.figure i Descriptor.cool * 100)) := by
    unfold State.restartDecision
    rw [modSlot_slots, toCooling_slot, if_pos rfl, State.toCooling_slots, PerSlot.set_set]
    exact congrArg _ (restartDecided_cases ..)
  exact congrArg (fun l : PerSlot SlotRec => { s with slots := l, warm := s.warm.erase i }) hslots

/-- The restart decision takes the slot's class off the powered draw: a pending restart draws nothing (R21, R132). -/
theorem restartDecision_draw (hp : (s.slot i).state.powered = true) :
    (s.restartDecision i).draw + s.drawClass i = s.draw := by
  have hkeeps : (s.restartDecision i).supply = (s.toCooling i).supply :=
    modSlot_keeps _ _ fun r => by split <;> rfl
  rw [draw_of_supply hkeeps]
  exact toCooling_draw hp

/-- The start timer's expiry in QUIET, with no POWER job to answer: reason and restart decision (R128). -/
theorem startFailed_quiet (hs : (s.slot i).state = .starting) (hq : s.ho.phase = .quiet)
    (hjob : (s.slot i).jobCell = none) : s.startFailed i = (s.setReason i .startTimeout).restartDecision i := by
  rw [State.startFailed, if_pos hs, answerJob_jobless hjob, controllerExpiry_quiet (s := s.setReason i _) hq]

/-- The grace timer's expiry in QUIET: reason and restart decision (R131). -/
theorem graceOver_quiet (hs : (s.slot i).state = .lost) (hq : s.ho.phase = .quiet) :
    s.graceOver i = (s.setReason i .lost).restartDecision i := by
  rw [State.graceOver, if_pos hs, controllerExpiry_quiet (s := s.setReason i _) hq]

/-- Settles O43: either expiry writes its reason and makes the restart decision. -/
theorem expiryDecidesRestart : Obligations.ExpiryDecidesRestart := by
  intro s i command reason ⟨hquiet, _⟩ hjob hcase
  let v := s.setReason i reason
  have hm : exec command s = finish s (v.restartDecision i) := by
    obtain ⟨rfl, hs, rfl⟩ | ⟨rfl, hs, rfl⟩ := hcase
    · exact congrArg (finish s) (startFailed_quiet hs hquiet hjob)
    · exact congrArg (finish s) (graceOver_quiet hs hquiet)
  have hp : (s.slot i).state.powered = true := by
    obtain ⟨-, hs, -⟩ | ⟨-, hs, -⟩ := hcase <;> rw [hs] <;> rfl
  have hv : v.supply = s.supply := setReason_supply ..
  have hdraw : (v.restartDecision i).draw + s.drawClass i = s.draw := by
    rw [← draw_of_supply hv]
    exact restartDecision_draw ((powered_of_supply hv i).trans hp)
  have hslot : v.slot i = { s.slot i with reason := reason } := modSlot_slot_same ..
  have hslots (r : SlotRec) : v.slots.set i r = s.slots.set i r := PerSlot.set_set ..
  rw [restartDecision_eq, hslot, hslots] at hm hdraw
  exact ⟨_, hm.trans (finish_eq ..), rfl, rfl, hdraw, rfl,
    OnlyMarks.finish (s := s) ((OnlyMarks.refl s).congr (by rfl))⟩

end
end Sys2Proof.Machine
end

section
namespace Sys2Proof.Machine

/-! ### SETUP CHORD and SETUP COIN at their take (R155, R164) -/

section
variable {j : Job}

/-- SETUP CHORD with every word in range replaces the chord's values and sets its timer to 0 (R155). -/
theorem chordJob_inRange {mask : BitVec 32} (hmask : BitVec.ofNat 32 (j.word 3 + 65536 * j.word 4) = mask)
    (hcount : 1 ≤ maskCount mask ∧ maskCount mask ≤ 4) (hhold : 5 ≤ j.word 5 ∧ j.word 5 ≤ 50) (haction : j.word 6 ≤ 1)
    (s : State) : chordJob j s = { s with
      router.chordMask := mask, router.chordHold := j.word 5, router.chordReturn := decide (j.word 6 = 1),
      router.chordTimer := 0 }.complete j.cell .ok 0 [j.word 3, j.word 4, j.word 5, j.word 6] := by
  subst hmask
  rw [chordJob, if_neg (by omega), if_neg (by omega), if_neg (by omega)]

/-- No word of a SETUP COIN job is out of range (R164). -/
theorem coinFailure_none (h3 : 1 ≤ j.word 3 ∧ j.word 3 ≤ 9) (h4 : 1 ≤ j.word 4 ∧ j.word 4 ≤ 9)
    (h5 : 5 ≤ j.word 5 ∧ j.word 5 ≤ 100) (h6 : j.word 5 ≤ j.word 6 ∧ j.word 6 ≤ 500)
    (h7 : 1 ≤ j.word 7 ∧ j.word 7 ≤ 9999) (h8 : 20 ≤ j.word 8 ∧ j.word 8 ≤ 255)
    (h9 : 20 ≤ j.word 9 ∧ j.word 9 ≤ 255) : coinFailure j = none := by
  simp only [coinFailure, Option.map_eq_none_iff, List.find?_eq_none, List.forall_mem_cons, Bool.or_eq_true,
    decide_eq_true_eq, List.not_mem_nil, false_implies, implies_true, and_true]
  omega

/-- SETUP COIN with every word in range replaces the coin setup (R164). -/
theorem coinJob_inRange (h : coinFailure j = none) (s : State) : coinJob j s = { s with
    credit.setup := ⟨j.word 3, j.word 4, j.word 5, j.word 6, j.word 7, j.word 8, j.word 9⟩ }.complete j.cell .ok 0
      [j.word 3, j.word 4, j.word 5, j.word 6, j.word 7, j.word 8, j.word 9] := by
  simp only [coinJob, h]

/-- Settles O35: both jobs end at their take, and change beside the take the chord's values or the coin setup alone. -/
theorem chordAndCoinSet : Obligations.ChordAndCoinSet := by
  intro s j hj
  have ⟨hwf, hhead, _⟩ := hj
  refine ⟨fun hg => ?chord, fun hg h3 h3' h4 h4' h5 h5' h6 h6' h7 h7' h8 h8' h9 h9' => ?coin⟩
  case chord =>
    intro mask h1 h4 h5 h50 haction
    obtain ⟨w, n, p, he, hend, -⟩ := ended_at_take hwf hhead (isSetup_due hj hg)
      (chordJob_inRange rfl ⟨h1, h4⟩ ⟨h5, h50⟩ haction (s.take j.cell)) rfl rfl (OnlyMarks.refl s)
    exact ⟨_, he, hend, rfl, rfl⟩
  case coin =>
    have hpass : coinFailure j = none :=
      coinFailure_none ⟨h3, h3'⟩ ⟨h4, h4'⟩ ⟨h5, h5'⟩ ⟨h6, h6'⟩ ⟨h7, h7'⟩ ⟨h8, h8'⟩ ⟨h9, h9'⟩
    obtain ⟨w, n, p, he, hend, -⟩ := ended_at_take hwf hhead (isSetup_due hj hg)
      (coinJob_inRange hpass (s.take j.cell)) rfl rfl (OnlyMarks.refl s)
    exact ⟨_, he, hend, rfl, rfl⟩

end
end Sys2Proof.Machine
end

section
namespace Sys2Proof.Machine

/-! ### The entry states of the driven slot's map (R152 to R154) -/

theorem mapInputs_getElem? (f : Nat → InputState → InputState) (n : Nat) (xs : List InputState) (i : Nat) :
    (mapInputs f n xs)[i]? = xs[i]?.map (f (n + i)) := by
  induction xs generalizing n i with
  | nil => rfl
  | cons x xs ih =>
    cases i with
    | zero => rfl
    | succ i =>
      rw [mapInputs, List.getElem?_cons_succ, List.getElem?_cons_succ, ih, Nat.add_right_comm, Nat.add_assoc]

theorem mapEntries_getElem? (f : Nat → MapEntry → Nat → InputState → InputState) (k : Nat) (es : List MapEntry)
    (xss : List (List InputState)) (i : Nat) : (mapEntries f k es xss)[i]? =
      es[i]?.bind fun e => xss[i]?.map (mapInputs (f (k + i) e) e.first) := by
  induction es generalizing k xss i with
  | nil => rfl
  | cons e es ih =>
    cases xss with
    | nil => cases i <;> simp [mapEntries]
    | cons xs rest =>
      cases i with
      | zero => rfl
      | succ i =>
        rw [mapEntries, List.getElem?_cons_succ, List.getElem?_cons_succ, List.getElem?_cons_succ, ih,
          Nat.add_right_comm, Nat.add_assoc]

/-- Where the driven slot's map has an entry, the state it holds for an input. -/
theorem entryState_some {s : State} {k n : Nat} {x : InputState} : s.entryState k n = some x ↔
    ∃ e xs, s.router.drivenMap[k]? = some e ∧ s.router.entries[k]? = some xs ∧ e.first ≤ n ∧
      xs[n - e.first]? = some x := by
  unfold State.entryState
  cases s.router.drivenMap[k]? <;> cases s.router.entries[k]? <;> simp

/-- An entry that the driven slot's map does not have holds no state. -/
theorem entryState_none {s : State} {k : Nat} (h : s.router.drivenMap[k]? = none) (n : Nat) :
    s.entryState k n = none := by
  simp only [State.entryState, h]

/-- After a change of the entry states by `f` each entry holds for each input what `f` makes of the state it held. -/
theorem entryState_update {s t : State} {f : Nat → MapEntry → Nat → InputState → InputState} {k : Nat} {e : MapEntry}
    (hmap : t.router.drivenMap = s.router.drivenMap)
    (hent : t.router.entries = mapEntries f 0 s.router.drivenMap s.router.entries)
    (he : s.router.drivenMap[k]? = some e) (n : Nat) : t.entryState k n = (s.entryState k n).map (f k e n) := by
  have hk : (mapEntries f 0 s.router.drivenMap s.router.entries)[k]? =
      s.router.entries[k]?.map (mapInputs (f k e) e.first) := by
    rw [mapEntries_getElem?, he, Nat.zero_add]
    rfl
  simp only [State.entryState, hmap, hent, he, hk]
  cases s.router.entries[k]? with
  | none => rfl
  | some xs =>
    by_cases hn : e.first ≤ n
    · simp only [Option.map_some, if_pos hn, mapInputs_getElem?, Nat.add_sub_cancel' hn]
    · simp only [Option.map_some, if_neg hn, Option.map_none]

/-! ### The pins a map makes active (R150) -/

theorem shiftedOne_getLsbD {w p : Nat} (hp : p < w) (n : Nat) : (1#w <<< n).getLsbD p = decide (p = n) := by
  rw [← BitVec.twoPow_eq, BitVec.getLsbD_twoPow]
  by_cases h : p = n
  · simp [← h, hp]
  · simp [h, Ne.symm h]

theorem entryPins_getLsbD {p : Nat} (hp : p < 48) (inputs : BitVec 32) (e : MapEntry) (n : Nat) (xs : List InputState) :
    (entryPins inputs e n xs).getLsbD p = true ↔
      ∃ i x, xs[i]? = some x ∧ e.activeFor inputs (n + i) x = true ∧ p = e.pin + (n + i - e.first) := by
  induction xs generalizing n with
  | nil => simp [entryPins]
  | cons x xs ih =>
    have hhead : ((if e.activeFor inputs n x then 1#48 <<< (e.pin + (n - e.first)) else 0).getLsbD p = true) ↔
        e.activeFor inputs n x = true ∧ p = e.pin + (n - e.first) := by
      split
      case isTrue h => rw [shiftedOne_getLsbD hp, decide_eq_true_eq]; exact (and_iff_right h).symm
      case isFalse h => simp [h]
    rw [entryPins, BitVec.getLsbD_or, Bool.or_eq_true, hhead, ih]
    constructor
    · rintro (⟨ha, hpin⟩ | ⟨i, y, hy, ha, hpin⟩)
      · exact ⟨0, x, rfl, ha, hpin⟩
      · exact ⟨i + 1, y, hy, by rwa [← Nat.add_assoc, Nat.add_right_comm], by omega⟩
    · rintro ⟨i, y, hy, ha, hpin⟩
      cases i with
      | zero => cases hy; exact .inl ⟨ha, hpin⟩
      | succ i => exact .inr ⟨i, y, hy, by rwa [Nat.add_right_comm, Nat.add_assoc], by omega⟩

theorem mapPins_getLsbD (inputs : BitVec 32) (es : List MapEntry) (xss : List (List InputState)) (p : Nat) :
    (mapPins inputs es xss).getLsbD p = true ↔
      ∃ (k : Nat) (e : MapEntry) (xs : List InputState), es[k]? = some e ∧ xss[k]? = some xs ∧
        (entryPins inputs e e.first xs).getLsbD p = true := by
  induction es generalizing xss with
  | nil => simp [mapPins]
  | cons e es ih =>
    cases xss with
    | nil => simp [mapPins]
    | cons xs rest =>
      rw [mapPins, BitVec.getLsbD_or, Bool.or_eq_true, ih]
      constructor
      · rintro (h | ⟨k, e', xs', he, hxs, h⟩)
        · exact ⟨0, e, xs, rfl, rfl, h⟩
        · exact ⟨k + 1, e', xs', he, hxs, h⟩
      · rintro ⟨k, e', xs', he, hxs, h⟩
        cases k with
        | zero => cases he; cases hxs; exact .inl h
        | succ k => exact .inr ⟨k, e', xs', he, hxs, h⟩

theorem drive_frame (r : Router) : r.drive = { r with activePins := r.drive.activePins } := by
  unfold Router.drive
  split <;> rfl

/-- Neither in a chord freeze nor in a restart hold, the pins computed are those of the driven slot's map (R150). -/
theorem drive_active {r : Router} (hfreeze : r.chordFreeze = false) (hhold : r.restartHold = false) :
    r.drive = { r with activePins := mapPins r.inputs r.drivenMap r.entries } :=
  if_neg (by simp [hfreeze, hhold])

/-- Neither in a chord freeze nor in a restart hold, exactly the pins with an active entry of the driven slot's map
stand at their active level (R150). -/
def DrivesEntries (t : State) : Prop := t.router.chordFreeze = false → t.router.restartHold = false → ∀ p, p < 48 →
  (t.router.activePins.getLsbD p = true ↔ ∃ k m e x, t.router.drivenMap[k]? = some e ∧
    t.entryState k m = some x ∧ e.activeFor t.router.inputs m x = true ∧ p = e.pin + (m - e.first))

/-- The pins computed at a scan are those of the active entries (R150). -/
theorem drivesEntries_of_drive {t : State} {r : Router} (h : t.router = r.drive) : DrivesEntries t := by
  intro hfreeze hhold p hp
  have hpins : t.router.activePins = mapPins t.router.inputs t.router.drivenMap t.router.entries := by
    rw [h, drive_frame r] at hfreeze hhold
    have hr : r.drive = { r with activePins := mapPins r.inputs r.drivenMap r.entries } := drive_active hfreeze hhold
    rw [h, hr]
    rfl
  rw [hpins, mapPins_getLsbD]
  constructor
  · rintro ⟨k, e, xs, he, hxs, hpin⟩
    obtain ⟨i, x, hx, ha, hpin⟩ := (entryPins_getLsbD hp ..).1 hpin
    have hstate : t.entryState k (e.first + i) = some x :=
      entryState_some.2 ⟨e, xs, he, hxs, Nat.le_add_right .., by rwa [Nat.add_sub_cancel_left]⟩
    exact ⟨k, e.first + i, e, x, he, hstate, ha, hpin⟩
  · rintro ⟨k, m, e, x, he, hx, ha, hpin⟩
    obtain ⟨e', xs, he', hxs, hm, hx⟩ := entryState_some.1 hx
    cases he.symm.trans he'
    have hsum : e.first + (m - e.first) = m := Nat.add_sub_cancel' hm
    exact ⟨k, e, xs, he, hxs, (entryPins_getLsbD hp ..).2 ⟨m - e.first, x, hx, by rwa [hsum], by rwa [hsum]⟩⟩

/-! ### A command of the router that settles the pins (R142) -/

theorem pinsToCome_iff (s : State) : s.pinsToCome = true ↔ 0 < s.scan ∧ s.scan ≤ 6 := by
  simp only [State.pinsToCome, Bool.and_eq_true, decide_eq_true_eq]
  rfl

/-- A command that leads to `u` and settles the pins there changes beside the marks the pins driven: outside a scan they
are computed, and while a scan has them to compute they stand (R142). -/
theorem settled_by {s u : State} {x : Host.Outcome State Fault Refusal} (hx : x = finish s u.settlePins)
    (hm : OnlyMarks s u) : ∃ pins p,
      let t : State := { u with router := { u.router with activePins := pins }, pages := p }
      x = .next t ∧ OnlyMarks s t ∧ (u.scan = 0 ∨ 6 < u.scan → DrivesEntries t) ∧
        (0 < u.scan → u.scan ≤ 6 → pins = u.router.activePins) := by
  have hu := settlePins_frame u
  obtain ⟨p, he, hmarks, -⟩ := stepped_by (hx.trans (congrArg (finish s) hu)) (hm.congr (by rfl))
  refine ⟨_, p, he, hmarks, fun hscan => ?_, fun hlow hhigh => ?_⟩
  · have hout : u.pinsToCome = false := Bool.eq_false_iff.2 fun h => by
      have := (pinsToCome_iff u).1 h
      omega
    refine drivesEntries_of_drive (r := u.router) ?_
    exact (congrArg State.router hu).symm.trans (congrArg State.router (settlePins_outside hout))
  · rw [settlePins_scanning ((pinsToCome_iff u).2 ⟨hlow, hhigh⟩)]

/-! ### Lines that settle (R142, R143) -/

theorem setInput_getLsbD (f : BitVec 32) {n m : Nat} (hm : m < 32) (b : Bool) :
    (setInput f n b).getLsbD m = if m = n then b else f.getLsbD m := by
  have hbit : (inputBit n).getLsbD m = decide (m = n) := shiftedOne_getLsbD hm n
  cases b with
  | true =>
    rw [setInput, if_pos rfl, BitVec.getLsbD_or, hbit]
    by_cases h : m = n <;> simp [h]
  | false =>
    rw [setInput, if_neg (by decide), BitVec.getLsbD_and, BitVec.getLsbD_not, hbit]
    by_cases h : m = n <;> simp [h, hm, -BitVec.getLsbD_eq_getElem]

/-- A line that settles takes the level sampled, and no other line moves. -/
theorem acceptLine_lineActive (l l' : Line) (b : Bool) (r : Router) :
    (r.acceptLine l b).lineActive l' = if l' = l then b else r.lineActive l' := by
  cases l with
  | input i =>
    cases l' with
    | input i' =>
      have h := setInput_getLsbD r.inputs (n := i.val) i'.isLt b
      simpa [Router.acceptLine, Router.lineActive, Router.active, Fin.ext_iff] using h
    | service => rfl
    | operatorKey => rfl
  | service => cases l' <;> rfl
  | operatorKey => cases l' <;> rfl

theorem released_lineActive (l l' : Line) (r : Router) : (r.released l).lineActive l' = r.lineActive l' := by
  cases l <;> cases l' <;> rfl

theorem chordReleases_frame (r : Router) : r.chordReleases = { r with
    entries := r.chordReleases.entries, chordTimer := r.chordReleases.chordTimer,
    chordLatch := r.chordReleases.chordLatch, chordFreeze := r.chordReleases.chordFreeze } := by
  simp only [Router.chordReleases]
  repeat' split
  all_goals rfl

theorem chordReleases_lineActive (l : Line) (r : Router) : r.chordReleases.lineActive l = r.lineActive l := by
  rw [chordReleases_frame]
  cases l <;> rfl

section
variable {e : MapEntry} {n m : Nat} {x : InputState}

/-- An activation starts an idle PULSE entry (R152). -/
theorem activate_pulse {d : Nat} (h : e.mode = .pulse d) : e.activate n m x =
    if m = n ∧ x.phase = .idle ∧ x.wait = false then ⟨.pulsing d, false⟩ else x := by
  simp only [MapEntry.activate, h]
  exact ite_congr rfl (fun ⟨_, _, hwait⟩ => congrArg _ hwait) fun _ => rfl

/-- An activation starts an idle AUTOFIRE entry (R153). -/
theorem activate_autofire {on off : Nat} (h : e.mode = .autofire on off) : e.activate n m x =
    if m = n ∧ x.phase = .idle ∧ x.wait = false then ⟨.on on, false⟩ else x := by
  simp only [MapEntry.activate, h]
  exact ite_congr rfl (fun ⟨_, _, hwait⟩ => congrArg _ hwait) fun _ => rfl

/-- An entry of a mode that holds no state is left by an activation (R151). -/
theorem activate_stateless (h : e.mode.holdsState = false) : e.activate n m x = x := by
  unfold MapEntry.activate
  cases hmode : e.mode with
  | direct | invert => exact ite_self x
  | pulse d => simp [hmode, EntryMode.holdsState] at h
  | autofire on off => simp [hmode, EntryMode.holdsState] at h

end

/-- An activation of an input (R142, R143): the bit is set, and the entries are told. -/
theorem lineOn_input {s : State} {n : Fin 32} (h : s.router.inputs.getLsbD n.val = false) :
    s.lineOn (.input n) = ({ s with
      router := (s.router.acceptLine (.input n) true).updateEntries fun _ => MapEntry.activate n.val,
      pins := s.pins.setLine (.input n) true } : State).settlePins :=
  if_neg (by simpa [Router.lineActive, Router.active] using h)

/-- A unit with no source on air and room in the bank goes to the bank (R162). -/
theorem routeUnit_bank {s : State} (hair : s.ho.onAir = none) (hbank : s.credit.bank < 9999) :
    s.routeUnit = { s with credit := { s.credit with bank := s.credit.bank + 1 } } := by
  have hfeed : s.feedingSlot = none := by simp only [State.feedingSlot, hair]
  have hunit : s.credit.bankUnit = { s.credit with bank := s.credit.bank + 1 } := if_pos hbank
  simp only [State.routeUnit, hfeed, hunit]

/-- An activation of the service line with no source on air and room in the bank (R142, R161, R162). -/
theorem lineOn_service {s : State} (hoff : s.router.service = false) (hair : s.ho.onAir = none)
    (hbank : s.credit.bank < 9999) : s.lineOn .service = ({ s with
      router := s.router.acceptLine .service true, pins := s.pins.setLine .service true,
      credit := { s.credit with bank := s.credit.bank + 1, granted := s.credit.granted + 1 } } : State).settlePins := by
  let u : State := { s with
    router := s.router.acceptLine .service true, pins := s.pins.setLine .service true,
    credit := { s.credit with granted := s.credit.granted + 1 } }
  have hline : s.lineOn .service = u.routeUnit.settlePins := if_neg (by simpa [Router.lineActive] using hoff)
  rw [hline, routeUnit_bank (s := u) hair hbank]

/-- A release of a line that was debounced active (R142). -/
theorem lineOff_active {s : State} {l : Line} (h : s.router.lineActive l = true) : s.lineOff l = ({ s with
    router := s.advanceReleased ((s.router.acceptLine l false).released l),
    pins := s.pins.setLine l false } : State).settlePins := if_pos h

theorem advanceReleased_lineActive (s : State) (r : Router) (l : Line) :
    (s.advanceReleased r).lineActive l = r.lineActive l := by
  unfold State.advanceReleased
  split
  · rfl
  · exact chordReleases_lineActive l r

/-- While the scan has the chord still to advance, a release leaves it (R142). -/
theorem advanceReleased_early {s : State} (hlow : 0 < s.scan) (hhigh : s.scan ≤ 5) (r : Router) :
    s.advanceReleased r = r := if_pos (by
  simp only [State.chordToCome, Bool.and_eq_true, decide_eq_true_eq]
  exact ⟨hlow, hhigh⟩)

/-- A line that settles inactive, with the entries told, leaves the chord and the pins. -/
theorem releasedLine_chord (l : Line) (r : Router) : ((r.acceptLine l false).released l).chordFreeze = r.chordFreeze ∧
    ((r.acceptLine l false).released l).chordLatch = r.chordLatch ∧
    ((r.acceptLine l false).released l).activePins = r.activePins := by
  cases l <;> exact ⟨rfl, rfl, rfl⟩

/-- The last of the router's stages in a scan computes the pins (R142). -/
theorem idle_pins {s : State} (h : s.scan = 6) : s.idle =
    s.drivePins.widenCoins.stage 7 (s.widenCoins.dueCoin .a ++ s.widenCoins.dueCoin .b) := by
  simp only [State.idle, h]

/-- Settles O55: an activation, the service unit and a release each settle the pins at their end, and the scan's own
stage computes them. -/
theorem linesSettle : Obligations.LinesSettle := by
  refine ⟨fun s n hoff => ?input, fun s hoff hair hbank => ?service, fun s l hon => ?release, fun s hq hscan => ?scan⟩
  case input =>
    obtain ⟨pins, p, he, hmarks, hdrive, hstand⟩ :=
      settled_by (congrArg (finish s) (lineOn_input hoff)) ((OnlyMarks.refl s).congr rfl)
    refine ⟨_, he, rfl, fun k m e x hk hx => ?_, hdrive, hstand, rfl, rfl, hmarks⟩
    refine (entryState_update (s := s) (f := fun _ => MapEntry.activate n.val) (by rfl) (by rfl) hk m).trans ?_
    rw [hx]
    refine congrArg some ?_
    cases hmode : e.mode with
    | pulse d => exact activate_pulse hmode
    | autofire on off => exact activate_autofire hmode
    | direct | invert => exact activate_stateless (by rw [hmode]; rfl)
  case service =>
    obtain ⟨pins, p, he, hmarks, -⟩ := settled_by (congrArg (finish s) (lineOn_service hoff hair hbank))
      ((OnlyMarks.refl s).congr rfl)
    exact ⟨_, he, rfl, rfl, rfl, hmarks⟩
  case release =>
    let r := (s.router.acceptLine l false).released l
    obtain ⟨pins, p, he, hmarks, hdrive, hstand⟩ :=
      settled_by (congrArg (finish s) (lineOff_active hon)) ((OnlyMarks.refl s).congr rfl)
    have hlines (l' : Line) : (s.advanceReleased r).lineActive l' = if l' = l then false else s.router.lineActive l' :=
      (advanceReleased_lineActive s r l').trans ((released_lineActive ..).trans (acceptLine_lineActive ..))
    have hbeside (l' : Line) : ({ s.advanceReleased r with activePins := pins } : Router).lineActive l' =
        (s.advanceReleased r).lineActive l' := by
      cases l' <;> rfl
    refine ⟨_, he, ?_, fun l' hne => ?_, hdrive, fun hlow hhigh => ?_, rfl, hmarks⟩
    · exact (hbeside l).trans ((hlines l).trans (if_pos rfl))
    · exact (hbeside l').trans ((hlines l').trans (if_neg hne))
    · obtain ⟨hfreeze, hlatch, hactive⟩ := releasedLine_chord l s.router
      have hr : s.advanceReleased r = r := advanceReleased_early hlow hhigh r
      have hpins : pins = (s.advanceReleased r).activePins := hstand hlow (Nat.le_succ_of_le hhigh)
      refine ⟨?_, ?_, ?_⟩
      · exact (congrArg Router.chordFreeze hr).trans hfreeze
      · exact (congrArg Router.chordLatch hr).trans hlatch
      · exact hpins.trans ((congrArg Router.activePins hr).trans hactive)
  case scan =>
    have hstep : Machine.step s = finish s s.idle := by simp only [step, hq]
    obtain ⟨p, he, hmarks, -⟩ := stepped_by (hstep.trans (congrArg (finish s) (idle_pins hscan)))
      ((OnlyMarks.refl s).congr rfl)
    exact ⟨_, he, drivesEntries_of_drive (r := s.router) rfl, rfl, drive_frame s.router, rfl, hmarks⟩

/-! ### The ends of entry phases (R152, R153) -/

/-- The phase `x` of entry `e` runs out: the command of its end, for entry `k` and input `n`, and the phase that
follows. -/
def PhaseEnds (k : Nat) (n : Fin 32) (e : MapEntry) (x : EntryPhase) (command : Instr) (next : EntryPhase) : Prop :=
  (∃ left, x = .pulsing left ∧ command = .pulseEntryEnd k n ∧ next = .idle) ∨
    (∃ left a b, x = .on left ∧ e.mode = .autofire a b ∧ command = .autofireOnEnd k n ∧ next = .off b) ∨
    (∃ left a b, x = .off left ∧ e.mode = .autofire a b ∧ command = .autofireOffEnd k n ∧ next = .on a)

/-- Each end of a phase steps its entry's phase to the following one, which is another. -/
theorem PhaseEnds.steps {k : Nat} {n : Fin 32} {e : MapEntry} {x next : EntryPhase} {command : Instr}
    (h : PhaseEnds k n e x command next) (s : State) : ∃ f : MapEntry → EntryPhase → EntryPhase,
      exec command s = finish s (s.stepEntry k n.val f) ∧ f e x = next ∧ next ≠ x := by
  obtain ⟨left, rfl, rfl, rfl⟩ | ⟨left, a, b, rfl, hmode, rfl, rfl⟩ | ⟨left, a, b, rfl, hmode, rfl, rfl⟩ := h
  · exact ⟨EntryPhase.pulseEnd, rfl, rfl, nofun⟩
  · exact ⟨EntryPhase.onEnd, rfl, by simp only [EntryPhase.onEnd, hmode], nofun⟩
  · exact ⟨EntryPhase.offEnd, rfl, by simp only [EntryPhase.offEnd, hmode], nofun⟩

section
variable {s t : State} {k m : Nat} {f : MapEntry → EntryPhase → EntryPhase}

/-- A step of one phase changes the state of that entry for that input alone. -/
theorem stepPhase_entryState (hmap : t.router.drivenMap = s.router.drivenMap)
    (hent : t.router.entries = (s.router.stepPhase k m f).entries) {k' : Nat} {e : MapEntry}
    (he : s.router.drivenMap[k']? = some e) (m' : Nat) : t.entryState k' m' = (s.entryState k' m').map fun x =>
      if k' = k ∧ m' = m then { x with phase := f e x.phase } else x :=
  entryState_update hmap hent he m'

/-- A phase that changes is stepped, and the pins settle (R142). -/
theorem stepEntry_moves {e : MapEntry} {x : InputState} (he : s.router.drivenMap[k]? = some e)
    (hx : s.entryState k m = some x) (hne : f e x.phase ≠ x.phase) :
    s.stepEntry k m f = ({ s with router := s.router.stepPhase k m f } : State).settlePins := by
  refine if_neg fun hsame => hne ?_
  have h := stepPhase_entryState (s := s) (t := s) rfl hsame.symm he m
  rw [hx, Option.map_some, if_pos ⟨rfl, rfl⟩, Option.some.injEq] at h
  exact (congrArg InputState.phase h).symm

end

/-- Settles O56: the end of a phase steps that phase alone, and the pins settle after it. -/
theorem entryPhasesEnd : Obligations.EntryPhasesEnd := by
  intro s k n e x he hx command next hend
  obtain ⟨f, hexec, hf, hne⟩ := PhaseEnds.steps hend s
  have hmoves := stepEntry_moves (f := f) he hx (by rwa [hf])
  obtain ⟨pins, p, hnext, hmarks, -, hstand⟩ :=
    settled_by (hexec.trans (congrArg (finish s) hmoves)) ((OnlyMarks.refl s).congr rfl)
  refine ⟨_, hnext, ?_, fun k' m hother => ?_, rfl, hstand, rfl, hmarks⟩
  · refine (stepPhase_entryState (s := s) (k := k) (m := n.val) (f := f) (by rfl) (by rfl) he n.val).trans ?_
    rw [hx, Option.map_some, if_pos ⟨rfl, rfl⟩, hf]
  · cases hk : s.router.drivenMap[k']? with
    | none => exact (entryState_none (by exact hk) m).trans (entryState_none hk m).symm
    | some e' =>
      have hkeep : ¬ (k' = k ∧ m = n.val) := fun h => hother.elim (· h.1) (· h.2)
      refine (stepPhase_entryState (s := s) (k := k) (m := n.val) (f := f) (by rfl) (by rfl) hk m).trans ?_
      simp only [if_neg hkeep, Option.map_id']

end Sys2Proof.Machine
end

section
namespace Sys2Proof.Machine

/-! ### The units that the credit unit holds (R161, R162, R166, R167, R170 to R174) -/

/-- What became of the units that came in: the right side of R174, modulo 2^32. -/
def Credit.held (c : Credit) : Count32 :=
  BitVec.ofNat 32 (c.bank + c.pendingSum) + c.deliveredTotal + c.unbanked + c.withdrawn

section
variable (c : Credit) (i : Slot) (n : Nat)

/-- A slot's pending pulses replaced: the sum changes by that slot's alone. -/
theorem pendingSum_set : ({ c with pending := c.pending.set i n } : Credit).pendingSum + c.pending.get i =
    c.pendingSum + n := by
  cases i <;> simp only [Credit.pendingSum, Slot.all, List.map_cons, List.map_nil, List.sum_cons, List.sum_nil,
    PerSlot.get, PerSlot.set] <;> omega

/-- From `c` to `d`, `m` units come in and `n` of the waiting ones go on to a total: `m` more units are held. -/
theorem held_of_parts {c d : Credit} {m n : Nat} (hsum : d.bank + d.pendingSum + n = c.bank + c.pendingSum + m)
    (hout : d.deliveredTotal + d.unbanked + d.withdrawn =
      c.deliveredTotal + c.unbanked + c.withdrawn + BitVec.ofNat 32 n) :
    d.held = c.held + BitVec.ofNat 32 m := by
  have h := congrArg (BitVec.ofNat 32) hsum
  simp only [BitVec.ofNat_add] at h
  simp only [Credit.held, BitVec.ofNat_add]
  grind

theorem pendUnit_held : (c.pendUnit i).held = c.held + 1 := by
  have hsum := pendingSum_set c i (c.pending.get i + 1)
  refine held_of_parts (m := 1) (n := 0) ?_ (by simp [Credit.pendUnit])
  simp only [Credit.pendUnit]
  omega

theorem bankUnit_held : c.bankUnit.held = c.held + 1 := by
  obtain ⟨-, h⟩ | ⟨-, h⟩ := bankUnit_cases c <;> rw [h]
  · exact held_of_parts (m := 1) (n := 0) (by simp only [Credit.pendingSum]; omega) (by simp)
  · refine held_of_parts (m := 1) (n := 1) (by simp only [Credit.pendingSum]) ?_
    simp; grind

/-- Units returned are held again, in the bank or in the unbanked total (R167). -/
theorem returnUnits_held : (c.returnUnits n).held = c.held + BitVec.ofNat 32 n := by
  let k := min n (Config.bankMax - c.bank)
  refine held_of_parts (m := n) (n := n - k) ?_ ?_
  · simp only [Credit.returnUnits, Credit.pendingSum, k]; omega
  · simp only [Credit.returnUnits, k]; grind

/-- Pending pulses returned stay held (R167, R173). -/
theorem returnPending_held : (c.returnPending i).held = c.held := by
  have hsum := pendingSum_set c i 0
  have hpend : c.held = ({ c with pending := c.pending.set i 0 } : Credit).held + BitVec.ofNat 32 (c.pending.get i) :=
    held_of_parts (n := 0) (by dsimp only; omega) (by simp)
  exact (returnUnits_held _ _).trans hpend.symm

/-- Units moved from the bank to pending pulses stay held (R170, R172). -/
theorem moveToPending_held (h : n ≤ c.bank) : (c.moveToPending i n).held = c.held := by
  have hsum := pendingSum_set c i (c.pending.get i + n)
  have hheld : (c.moveToPending i n).held = c.held + BitVec.ofNat 32 0 := by
    refine held_of_parts (n := 0) ?_ (by simp [Credit.moveToPending])
    simp only [Credit.moveToPending, Credit.pendingSum] at hsum ⊢
    omega
  exact hheld.trans (BitVec.add_zero _)

/-- A unit delivered is no longer pending (R166). -/
theorem startPulse_held (d : Descriptor) (h : 0 < c.pending.get i) : (c.startPulse i d).held = c.held := by
  have hsum := pendingSum_set c i (c.pending.get i - 1)
  refine (held_of_parts (m := 0) (n := 1) ?_ ?_).trans (BitVec.add_zero _)
  · simp only [Credit.startPulse, Credit.pendingSum] at hsum ⊢
    omega
  · simp only [Credit.startPulse]
    grind

end
end Sys2Proof.Machine
end

section
namespace Sys2Proof.Machine

/-! ### What an operation may do to the credit (R161, R162, R174) -/

/-- Conservation of coin units (R174). -/
def Credit.Balanced (c : Credit) : Prop := c.coins + c.granted = c.held

/-- The bank and the meter pending count within their bounds (R161, R162). -/
def Credit.Bounded (c : Credit) : Prop := c.bank ≤ Config.bankMax ∧ c.meterPending ≤ Config.meterMax

/-- A change of the credit that keeps the units conserved, and the counts bounded. -/
structure Credit.Keeps (c d : Credit) : Prop where
  units : c.Balanced → d.Balanced
  bounds : c.Bounded → d.Bounded

theorem coinsConserved_iff (s : State) : CoinsConserved s ↔ s.credit.Balanced := Iff.rfl

theorem creditBounded_iff (s : State) : CreditBounded s ↔ s.credit.Bounded := Iff.rfl

section
variable {b c d : Credit}

theorem Credit.Keeps.refl (c : Credit) : c.Keeps c := ⟨id, id⟩

theorem Credit.Keeps.trans (h : b.Keeps c) (k : c.Keeps d) : b.Keeps d := ⟨k.units ∘ h.units, k.bounds ∘ h.bounds⟩

/-- As many units come in as are held in addition, and no count passes its bound. -/
theorem Credit.Keeps.of_units (x : Count32) (hin : d.coins + d.granted = c.coins + c.granted + x)
    (hheld : d.held = c.held + x) (hb : c.Bounded → d.Bounded) : c.Keeps d :=
  ⟨fun h => by rw [Balanced, hin, hheld, h], hb⟩

/-- Units that move within the credit unit are held as before. -/
theorem Credit.Keeps.of_move (hin : d.coins + d.granted = c.coins + c.granted) (hheld : d.held = c.held)
    (hb : c.Bounded → d.Bounded) : c.Keeps d :=
  .of_units 0 (hin.trans (BitVec.add_zero _).symm) (hheld.trans (BitVec.add_zero _).symm) hb

theorem Credit.Keeps.returnPending (h : b.Keeps c) (i : Slot) : b.Keeps (c.returnPending i) :=
  h.trans (.of_move rfl (returnPending_held c i) fun hc => ⟨returnUnits_bound hc.1 _, hc.2⟩)

theorem Credit.Keeps.moveToPending (h : b.Keeps c) (i : Slot) {n : Nat} (hn : n ≤ c.bank) :
    b.Keeps (c.moveToPending i n) :=
  h.trans (.of_move rfl (moveToPending_held c i n hn) fun hc => ⟨(Nat.sub_le ..).trans hc.1, hc.2⟩)

theorem Credit.Keeps.startPulse (h : b.Keeps c) (i : Slot) (d : Descriptor) (hp : 0 < c.pending.get i) :
    b.Keeps (c.startPulse i d) :=
  h.trans (.of_move rfl (startPulse_held c i d hp) id)

/-- Units granted while the bank has room for them (R171). -/
theorem Credit.Keeps.grant (h : b.Keeps c) {n : Nat} (hn : n ≤ Config.bankMax - c.bank) :
    b.Keeps { c with bank := c.bank + n, granted := c.granted + BitVec.ofNat 32 n } := by
  refine h.trans (.of_units (BitVec.ofNat 32 n) (BitVec.add_assoc ..).symm ?_ fun hc => ⟨?_, hc.2⟩)
  · exact held_of_parts (n := 0) (by simp only [Credit.pendingSum]; omega) (by simp)
  · have hbank := hc.1
    dsimp only
    omega

/-- Units withdrawn from the bank (R171). -/
theorem Credit.Keeps.withdraw (h : b.Keeps c) {n : Nat} (hn : n ≤ c.bank) :
    b.Keeps { c with bank := c.bank - n, withdrawn := c.withdrawn + BitVec.ofNat 32 n } := by
  refine h.trans (.of_move rfl ?_ fun hc => ⟨(Nat.sub_le ..).trans hc.1, hc.2⟩)
  refine (held_of_parts (m := 0) (n := n) ?_ (BitVec.add_assoc ..).symm).trans (BitVec.add_zero _)
  simp only [Credit.pendingSum]
  omega

end
end Sys2Proof.Machine
end

section
namespace Sys2Proof.Machine

/-! ### Operations that leave the credit alone -/

section
variable (s : State)

@[simp] theorem completeAll_credit (cells : List CellNo) (r : Result) (d : Nat) (l : List Nat) :
    (s.completeAll cells r d l).credit = s.credit :=
  (congrArg State.credit (completeAll_frame cells r d l s)).trans rfl

@[simp] theorem crossover_credit : s.crossover.credit = s.credit := by
  unfold State.crossover
  split <;> rfl

@[simp] theorem recomputeAudio_credit : s.recomputeAudio.credit = s.credit := crossover_credit _

@[simp] theorem setWanted_credit (src : Option Source) : (s.setWanted src).credit = s.credit := crossover_credit _

@[simp] theorem setRatio_credit (src : Source) (r : Nat) : (s.setRatio src r).credit = s.credit := by
  unfold State.setRatio
  extract_lets
  split
  · exact recomputeAudio_credit _
  · rfl

@[simp] theorem rampOnce_credit : s.rampOnce.credit = s.credit := crossover_credit _

@[simp] theorem advanceTo_credit (t : Stamp) : (s.advanceTo t).credit = s.credit := by
  obtain h | h := advanceTo_cases s t <;> rw [h]

@[simp] theorem settlePins_credit : s.settlePins.credit = s.credit :=
  (congrArg State.credit (settlePins_frame s)).trans rfl

/-! #### The slot manager -/

@[simp] theorem reloadRestarts_credit (i : Slot) : (s.reloadRestarts i).credit = s.credit := by
  unfold State.reloadRestarts
  split <;> rfl

@[simp] theorem powerSlot_credit (i : Slot) (vs : List Slot) : (s.powerSlot i vs).credit = s.credit := by
  rw [powerSlot_eq]

@[simp] theorem request_credit (i : Slot) (q : Requester) : (s.request i q).2.credit = s.credit := by
  unfold State.request
  repeat' split
  all_goals simp

@[simp] theorem withdrawTarget_credit : s.withdrawTarget.credit = s.credit := by
  rw [withdrawTarget_eq]

@[simp] theorem answerJob_credit (i : Slot) (p : Option PowerUp) (r : Result) (d : Nat) (mask : Word) :
    (s.answerJob i p r d mask).credit = s.credit := by
  unfold State.answerJob
  split <;> simp

@[simp] theorem reachOff_credit (i : Slot) : (s.reachOff i).credit = s.credit := by
  unfold State.reachOff
  split <;> rfl

@[simp] theorem enterLost_credit (i : Slot) : (s.enterLost i).credit = s.credit := by
  unfold State.enterLost
  split <;> rfl

@[simp] theorem slotStable_credit (i : Slot) : (s.slotStable i).credit = s.credit := by
  unfold State.slotStable
  split <;> simp

@[simp] theorem supersede_credit (i : Slot) : (s.supersede i).credit = s.credit := by
  unfold State.supersede
  split
  · exact complete_credit ..
  · rfl

@[simp] theorem releaseOutgoing_credit : s.releaseOutgoing.credit = s.credit := by
  unfold State.releaseOutgoing
  split
  · rw [releaseSlot_slots]
  · rfl

@[simp] theorem cutSource_credit (src : Source) : (s.cutSource src).credit = s.credit := by
  unfold State.cutSource State.cutSlot
  repeat' split
  all_goals rfl

/-! #### The hand-over controller -/

@[simp] theorem setPhase_credit (p : Phase) : (s.setPhase p).credit = s.credit := by
  obtain ⟨pages, h, -⟩ := setPhase_eq s p
  rw [h]

@[simp] theorem completeActive_credit (r : Result) (d : Nat) (data : SwitchJob → List Nat) :
    (s.completeActive r d data).credit = s.credit := by
  unfold State.completeActive
  split <;> simp

@[simp] theorem completeActiveOk_credit : s.completeActiveOk.credit = s.credit := by
  unfold State.completeActiveOk
  split <;> simp

@[simp] theorem judgeMenu_credit : s.judgeMenu.credit = s.credit := by
  unfold State.judgeMenu
  split <;> simp

@[simp] theorem fallback_credit (reason : FailReason) : (s.fallback reason).credit = s.credit := by
  simp [State.fallback]

@[simp] theorem failToFallback_credit (reason : FailReason) : (s.failToFallback reason).credit = s.credit := by
  simp [State.failToFallback]

@[simp] theorem judge_credit : s.judge.credit = s.credit := by
  unfold State.judge
  repeat' split
  all_goals simp

@[simp] theorem releaseHandled_credit : s.releaseHandled.credit = s.credit := by
  simp [State.releaseHandled]

@[simp] theorem outgoingFailure_credit : s.outgoingFailure.credit = s.credit := releaseHandled_credit _

@[simp] theorem lossStart_credit : s.lossStart.credit = s.credit := by
  obtain ⟨pages, h, -⟩ := lossStart_eq s
  rw [h]

@[simp] theorem toQuiet_credit : s.toQuiet.credit = s.credit := setPhase_credit ..

@[simp] theorem enterRelease_credit : s.enterRelease.credit = s.credit := setPhase_credit ..

@[simp] theorem applyPin_credit (j : SwitchJob) : (s.applyPin j).credit = s.credit := by
  rw [applyPin_slots]

@[simp] theorem prepare_credit (j : SwitchJob) : (s.prepare j).2.credit = s.credit := by
  unfold State.prepare State.prepareSlot State.requestFor
  repeat' split
  all_goals simp

@[simp] theorem completeAtChecks_credit (j : SwitchJob) (v : Verdict) : (s.completeAtChecks j v).credit = s.credit := by
  unfold State.completeAtChecks
  split <;> simp

@[simp] theorem makeWait_credit (j : SwitchJob) : (s.makeWait j).credit = s.credit := by
  unfold State.makeWait
  split <;> simp

@[simp] theorem retargetTo_credit (target : Source) : (s.retargetTo target).credit = s.credit := by
  unfold State.retargetTo
  dsimp only
  split <;> simp

@[simp] theorem backToOutgoing_credit (src : Source) : (s.backToOutgoing src).credit = s.credit := by
  unfold State.backToOutgoing
  simp only [judge_credit, setPhase_credit]
  split <;> simp

@[simp] theorem chooseAnew_credit : s.chooseAnew.credit = s.credit := by
  unfold State.chooseAnew
  repeat' split
  all_goals simp

@[simp] theorem abortWaiting_credit : s.abortWaiting.credit = s.credit := by
  unfold State.abortWaiting
  split <;> simp

/-! #### The host's writes, the pages and the soft restart -/

theorem foldl_credit {α : Type} {f : State → α → State} (hf : ∀ u a, (f u a).credit = u.credit) (l : List α) :
    (l.foldl f s).credit = s.credit := by
  induction l generalizing s with
  | nil => rfl
  | cons a l ih => exact (ih _).trans (hf s a)

@[simp] theorem writePost_credit (v : Word) : (s.writePost v).credit = s.credit :=
  (foldl_credit _ (f := fun u c => u.intakeFault c s.postFault) (fun _ _ => rfl) _).trans
    (foldl_credit s (f := State.postCell) (fun _ _ => rfl) _)

@[simp] theorem writeDone_credit (v : Word) : (s.writeDone v).credit = s.credit := by
  refine foldl_credit s (fun u c => ?_) _
  unfold State.returnCell
  split <;> rfl

@[simp] theorem writeEffect_credit (q : BusRequest) : (s.writeEffect q).1.credit = s.credit := by
  unfold State.writeEffect State.descriptorEffect
  repeat' split
  all_goals rfl

@[simp] theorem stopWrite_credit (q : BusRequest) : (s.stopWrite q).1.credit = s.credit := writeEffect_credit ..

@[simp] theorem restartBus_credit : s.restartBus.credit = s.credit := by
  unfold State.restartBus
  extract_lets
  repeat' split
  all_goals simp

@[simp] theorem endRestart_credit : s.endRestart.credit = s.credit := rfl

@[simp] theorem stopPolling_credit (q : BusRequest) (n : Nat) (a : Bool) :
    (s.stopPolling q n a).credit = s.credit := by
  unfold State.stopPolling
  split <;> simp

@[simp] theorem stopTransaction_credit (b : Bool) : (s.stopTransaction b).credit = s.credit := by
  unfold State.stopTransaction
  repeat' split
  all_goals simp

theorem busStopped_credit (b : Bool) : (s.busStopped b).credit = s.credit := by
  unfold State.busStopped
  repeat' split
  all_goals simp

theorem pageStart_credit (id : PageId) : (s.pageStart id).credit = s.credit := by
  unfold State.pageStart
  extract_lets
  split
  · cases id <;> rfl
  · rfl

theorem pageEnd_credit (id : PageId) : (s.pageEnd id).credit = s.credit := by
  unfold State.pageEnd
  extract_lets
  split <;> rfl

end
end Sys2Proof.Machine
end

section
namespace Sys2Proof.Machine

/-! ### Commands and jobs that leave the credit alone -/

section
variable (s : State)

/-! #### The slots, the adapter bus and the holding raster -/

theorem presence_credit (i : Slot) : (s.presence i).credit = s.credit := by
  unfold State.presence
  split <;> rfl

@[simp] theorem removeBus_credit (i : Slot) : (s.removeBus i).credit = s.credit := by
  unfold State.removeBus
  dsimp only
  split <;> simp

@[simp] theorem removeRouter_credit (i : Slot) : (s.removeRouter i).credit = s.credit := by
  unfold State.removeRouter
  dsimp only
  split <;> simp

theorem settled_credit (i : Slot) : (s.settled i).credit = s.credit := by
  unfold State.settled State.requestNewRun
  extract_lets
  repeat' split
  all_goals rfl

@[simp] theorem reportMask_credit (i : Slot) (p : PowerUp) (mask : Word) :
    (s.reportMask i p mask).credit = s.credit := by
  unfold State.reportMask
  split <;> rfl

theorem startRequest_credit : s.startRequest.credit = s.credit := by
  unfold State.startRequest
  split <;> rfl

theorem dataStop_credit : s.dataStop.credit = s.credit := by
  unfold State.dataStop
  split <;> rfl

@[simp] theorem endWrite_credit (q : BusRequest) (r : Result) (n : Nat) : (s.endWrite q r n).credit = s.credit := by
  simp [State.endWrite]

@[simp] theorem polled_credit (q : BusRequest) (n : Nat) (due : Stamp) (a : Bool) :
    (s.polled q n due a).credit = s.credit := by
  unfold State.polled
  repeat' split
  all_goals simp

@[simp] theorem polledAtRestart_credit (q : BusRequest) (n : Nat) (a : Bool) :
    (s.polledAtRestart q n a).credit = s.credit := by
  unfold State.polledAtRestart
  dsimp only
  split <;> simp

@[simp] theorem poll_credit (a : Bool) : (s.poll a).credit = s.credit := by
  unfold State.poll
  repeat' split
  all_goals simp

theorem pollTimeout_credit : s.pollTimeout.credit = s.credit := by
  unfold State.pollTimeout
  repeat' split
  all_goals simp

theorem recovered_credit : s.recovered.credit = s.credit := by
  unfold State.recovered
  split <;> simp

theorem startLine_credit : s.startLine.credit = s.credit := by
  unfold State.startLine
  split <;> simp

@[simp] theorem countFrame_credit : s.countFrame.credit = s.credit := by
  unfold State.countFrame
  split <;> rfl

@[simp] theorem slotEvent_credit (src : Source) (e : SyncEvent) : (s.slotEvent src e).credit = s.credit := by
  unfold State.slotEvent
  split <;> simp

@[simp] theorem hsyncAt_credit (src : Source) (t : Stamp) : (s.hsyncAt src t).credit = s.credit :=
  advanceTo_credit s t

@[simp] theorem noteVertical_credit (src : Source) (input : SyncInput) (t : Stamp) :
    (s.noteVertical src input t).credit = s.credit := by
  unfold State.noteVertical
  repeat' split
  all_goals rfl

@[simp] theorem vsyncRecord_credit (src : Source) (o : VsyncOutcome) : (s.vsyncRecord src o).credit = s.credit := by
  unfold State.vsyncRecord
  split <;> rfl

@[simp] theorem takeCoincident_credit (src : Source) (input : SyncInput) (t : Stamp) :
    (s.takeCoincident src input t).credit = s.credit := by
  unfold State.takeCoincident
  repeat' split
  all_goals simp

/-! #### The control router -/

theorem lineOff_credit (l : Line) : (s.lineOff l).credit = s.credit := by
  unfold State.lineOff
  split <;> simp

theorem installPending_credit (i : Slot) : (s.installPending i).credit = s.credit := by
  unfold State.installPending State.completeMap
  split <;> simp

theorem stepEntry_credit (k m : Nat) (f : MapEntry → EntryPhase → EntryPhase) :
    (s.stepEntry k m f).credit = s.credit := by
  unfold State.stepEntry
  split <;> simp

/-! #### The jobs -/

variable (i : Slot) (j : Job)

theorem powerOff_credit : (s.powerOff i j).credit = s.credit := by
  unfold State.powerOff State.offByState State.completePower
  repeat' split
  all_goals simp [State.cancelPending]

@[simp] theorem answerPower_credit (c : CellNo) (a : Answer) : (s.answerPower i c a).credit = s.credit := by
  unfold State.answerPower State.completePower
  split <;> simp

@[simp] theorem powerRequest_credit : (s.powerRequest i j).credit = s.credit := by
  simp [State.powerRequest]

theorem powerOn_credit : (s.powerOn i j).credit = s.credit := by
  unfold State.powerOn State.completePower
  split <;> simp

theorem powerCycle_credit : (s.powerCycle i j).credit = s.credit := by
  unfold State.powerCycle State.cycleByState State.completePower State.cycleThrough
  repeat' split
  all_goals simp

theorem setPin_credit (b : Bool) : (s.setPin b i j).credit = s.credit := by
  unfold State.setPin State.completePower
  split <;> simp

theorem supplyJob_credit : (supplyJob j s).credit = s.credit := by
  unfold supplyJob
  dsimp only
  split <;> simp

theorem loadMapJob_credit : (loadMapJob j s).credit = s.credit := by
  unfold loadMapJob State.judgeMap State.acceptMap State.supersedeMap State.completeMap
  repeat' split
  all_goals simp

theorem chordJob_credit : (chordJob j s).credit = s.credit := by
  unfold chordJob
  dsimp only
  repeat' split
  all_goals simp

theorem monitorJob_credit : (monitorJob j s).credit = s.credit := by
  unfold monitorJob
  split <;> simp

theorem glideJob_credit : (glideJob j s).credit = s.credit := by
  unfold glideJob
  split <;> simp

theorem queueWrite_credit : (queueWrite i j s).credit = s.credit := by
  unfold queueWrite
  split <;> simp

theorem reloadJob_credit : (reloadJob j s).credit = s.credit := by
  unfold reloadJob State.queueLoad
  repeat' split
  all_goals simp [State.emptyRecord]

end
end Sys2Proof.Machine
end

section
namespace Sys2Proof.Machine

/-! ### The credit as sources take and leave the air (R105, R112, R115, R123, R135, R165, R167, R168, R170) -/

/-- From a credit `c` to the credit of `s` the units stay conserved, and the counts bounded. -/
def Accounts (c : Credit) (s : State) : Prop := c.Keeps s.credit

section
variable {c : Credit} {s t : State}

theorem Accounts.refl (s : State) : Accounts s.credit s := Credit.Keeps.refl _

theorem Accounts.withCredit {d : Credit} (h : c.Keeps d) : Accounts c { s with credit := d } := h

/-- Only the credit is read. -/
theorem Accounts.congr (h : Accounts c s) (e : t.credit = s.credit) : Accounts c t := by
  rw [Accounts, e]
  exact h

/-- The feeds, the pulses in flight, the coin lines and the setup hold no units (R159, R164 to R166, R169). -/
theorem Accounts.beside (h : Accounts c s) (hu : s.credit.Balanced → t.credit.Balanced)
    (hb : s.credit.Bounded → t.credit.Bounded) : Accounts c t := h.trans ⟨hu, hb⟩

theorem Accounts.complete (h : Accounts c s) (k : CellNo) (r : Result) (d : Nat) (l : List Nat) :
    Accounts c (s.complete k r d l) := h.congr (complete_credit ..)

/-- Either branch of a choice keeps the accounts. -/
theorem Accounts.ite {p : Prop} [Decidable p] (h : Accounts c s) (k : Accounts c t) :
    Accounts c (if p then s else t) := by
  split
  · exact h
  · exact k

theorem Accounts.leaveAir (h : Accounts c s) (i : Slot) : Accounts c (s.leaveAir i) :=
  (h.trans ⟨id, id⟩ : c.Keeps (s.credit.setFeed i false)).returnPending i

theorem Accounts.removeCredit (h : Accounts c s) (i : Slot) : Accounts c (s.removeCredit i) :=
  (h.leaveAir i).beside id id

theorem Accounts.recordFeed (h : Accounts c s) (src : Source) : Accounts c (s.recordFeed src) := by
  cases src with
  | menu => exact h
  | slot i => exact h.leaveAir i

theorem Accounts.reopenFeed (h : Accounts c s) (src : Source) : Accounts c (s.reopenFeed src) := by
  unfold State.reopenFeed
  split
  · exact .ite (h.beside id id) h
  · exact h

theorem Accounts.moveUnits (h : Accounts c s) (i : Slot) (n : Nat) : Accounts c (s.moveUnits i n) :=
  Credit.Keeps.moveToPending h i (movable_le_bank s i n)

/-- The carry comes out of the bank, and the feed opens or stays (R165, R170). -/
theorem Accounts.cutCredit (h : Accounts c s) (src : Source) : Accounts c (s.cutCredit src) := by
  cases src with
  | menu => exact h
  | slot i =>
    have hcarry : c.Keeps (s.credit.moveToPending i (s.carryUnits i s.ho.handedCarry)) :=
      Credit.Keeps.moveToPending h i (movable_le_bank ..)
    show c.Keeps (if s.ho.cutFeed then _ else _)
    split
    · exact hcarry.trans ⟨id, id⟩
    · exact hcarry

/-! #### The hand-over controller -/

theorem Accounts.startRecovery (h : Accounts c s) (src : Source) : Accounts c (s.startRecovery src) :=
  (h.recordFeed src).congr (by simp [State.startRecovery])

theorem Accounts.lossFallback (h : Accounts c s) (i : Slot) (reason : FailReason) :
    Accounts c (s.lossFallback i reason) :=
  (h.leaveAir i).congr (by simp [State.lossFallback])

theorem Accounts.fadeInEnd (h : Accounts c s) : Accounts c s.fadeInEnd := by
  have hq : Accounts c s.completeActiveOk.toQuiet := h.congr (by simp)
  unfold State.fadeInEnd State.returnToQuiet
  split
  · exact hq.startRecovery _
  · exact hq

theorem Accounts.levelAnnounced (h : Accounts c s) : Accounts c s.levelAnnounced := by
  unfold State.levelAnnounced
  refine .ite ?_ h
  split
  · exact .ite (h.congr (by simp)) h
  · exact h.fadeInEnd
  · exact h

theorem Accounts.enterFadeOut (h : Accounts c s) (src : Source) : Accounts c (s.enterFadeOut src) :=
  Accounts.levelAnnounced
    (((h.congr (by simp) : Accounts c (s.setPhase .fadeOut)).recordFeed src).congr (by simp))

theorem Accounts.cancel (h : Accounts c s) : Accounts c s.cancel := by
  unfold State.cancel
  split
  · exact h
  · refine ((Accounts.reopenFeed ?_ _).congr (recomputeAudio_credit _)).levelAnnounced
    exact h.congr (by simp)

theorem Accounts.targetFailure (h : Accounts c s) (reason : FailReason) : Accounts c (s.targetFailure reason) :=
  .ite (Accounts.cancel (h.congr (by simp))) (.ite (h.congr (by simp)) h)

theorem Accounts.pendingFailed (h : Accounts c s) (r : Result) (d : Nat) (reason : FailReason) :
    Accounts c (s.pendingFailed r d reason) := Accounts.targetFailure (h.congr (by simp)) reason

theorem Accounts.startHandOver (h : Accounts c s) (j : SwitchJob) (cold : Bool) (mask : Word) :
    Accounts c (s.startHandOver j cold mask) := by
  unfold State.startHandOver
  dsimp only
  split
  · exact Accounts.enterFadeOut (h.congr (by rfl)) _
  · exact h.congr (by simp [State.adopt])

theorem Accounts.replaceActive (h : Accounts c s) (j : SwitchJob) (cold : Bool) (mask : Word) :
    Accounts c (s.replaceActive j cold mask) := by
  have ha : Accounts c ((s.completeActive .superseded 0 s.switchData).adopt j cold mask) :=
    h.congr (by simp [State.adopt])
  exact .ite ha.cancel (.ite ha (ha.congr (by simp)))

theorem Accounts.takeSwitch (h : Accounts c s) (j : SwitchJob) : Accounts c (s.takeSwitch j) := by
  unfold State.takeSwitch State.switchInQuiet State.switchInFlight
  dsimp only
  repeat' split
  any_goals exact Accounts.startHandOver (h.congr (by simp)) ..
  any_goals exact Accounts.replaceActive (h.congr (by simp)) ..
  all_goals exact h.congr (by simp)

theorem Accounts.takeUpWaiting (h : Accounts c s) : Accounts c s.takeUpWaiting := by
  unfold State.takeUpWaiting
  split
  · exact Accounts.takeSwitch (h.congr (by rfl)) _
  · exact h

theorem Accounts.levelReached (h : Accounts c s) : Accounts c s.levelReached :=
  .ite h.levelAnnounced.takeUpWaiting h.levelAnnounced

theorem Accounts.ratioAnnounced (h : Accounts c s) (src : Source) : Accounts c (s.ratioAnnounced src) :=
  .ite h.levelReached h

/-- A failure during FADE_IN is handled from QUIET, and the waiting job is then taken up (R113). -/
theorem Accounts.failInFadeIn (h : Accounts c s) {handle : State → State}
    (hh : ∀ u, Accounts c u → Accounts c (handle u)) : Accounts c (s.failInFadeIn handle) :=
  (hh s.completeActiveOk.toQuiet (h.congr (by simp))).takeUpWaiting

theorem Accounts.controllerLoses (h : Accounts c s) (src : Source) (noSync : Bool) :
    Accounts c (s.controllerLoses src noSync) := by
  unfold State.controllerLoses
  split
  case h_1 | h_2 => exact .ite (h.startRecovery src) h
  case h_3 => exact .ite (h.failInFadeIn fun _ hu => hu.startRecovery src) h
  case h_4 | h_5 | h_6 | h_7 => exact .ite (h.congr (by simp)) h
  case h_8 => exact h

theorem Accounts.controllerSlotFails (h : Accounts c s) (i : Slot) (reason : FailReason) :
    Accounts c (s.controllerSlotFails i reason) := by
  unfold State.controllerSlotFails
  split
  case h_1 | h_2 => exact .ite (h.lossFallback i reason) h
  case h_3 => exact .ite (h.failInFadeIn fun _ hu => hu.lossFallback i reason) h
  case h_4 | h_5 => exact .ite (h.congr (by simp)) (.ite (h.targetFailure reason) h)
  all_goals exact .ite (h.targetFailure reason) h

theorem Accounts.controllerExpiry (h : Accounts c s) (i : Slot) (reason : FailReason) :
    Accounts c (s.controllerExpiry i reason) := by
  unfold State.controllerExpiry
  split
  case h_1 | h_2 => exact .ite (h.congr (by simp)) (.ite (h.targetFailure reason) h)
  case h_3 | h_4 | h_5 => exact .ite (h.targetFailure reason) h
  all_goals exact h

theorem Accounts.onFinding (h : Accounts c s) (f : Finding) : Accounts c (s.onFinding f) := by
  unfold State.onFinding
  split
  case h_3 => exact .ite (h.congr (by simp)) h
  case h_5 =>
    split
    · exact h.targetFailure _
    · exact h
  all_goals exact h

theorem Accounts.cutHandled (h : Accounts c s) (src : Source) (rough : Bool) : Accounts c (s.cutHandled src rough) := by
  have ht : Accounts c
      ({ s with ho.onAir := some src, ho.rough := rough, ho.cancelled := false }.cutSource src |>.cutCredit src) :=
    Accounts.cutCredit (h.congr (by simp)) src
  exact Accounts.levelReached (ht.congr (by simp))

theorem Accounts.restartHandOver (h : Accounts c s) : Accounts c s.restartHandOver := by
  unfold State.restartHandOver
  dsimp only
  split
  case h_1 | h_2 | h_3 => exact Accounts.cancel (h.congr (by rfl))
  case h_4 | h_5 | h_6 => exact h.congr (by simp)
  case h_7 => exact h

end
end Sys2Proof.Machine
end

section
namespace Sys2Proof.Machine

/-! ### The credit under every command and the part's own step (R174) -/

section
variable {c : Credit} {s t : State}

/-! #### Units routed (R161, R162) -/

theorem bankUnit_bounded {c : Credit} (h : c.Bounded) : c.bankUnit.Bounded := by
  obtain ⟨hroom, hc⟩ | ⟨-, hc⟩ := bankUnit_cases c <;> rw [hc]
  · exact ⟨hroom, h.2⟩
  · exact h

theorem bankUnit_received (c : Credit) : c.bankUnit.coins + c.bankUnit.granted = c.coins + c.granted := by
  obtain ⟨-, hc⟩ | ⟨-, hc⟩ := bankUnit_cases c <;> rw [hc]

/-- A unit that a total has counted is routed to where it is held (R161, R162): `s` has counted it. -/
theorem Credit.Keeps.routeUnit (hin : s.credit.coins + s.credit.granted = c.coins + c.granted + 1)
    (hheld : s.credit.held = c.held) (hb : c.Bounded → s.credit.Bounded) : c.Keeps s.routeUnit.credit := by
  unfold State.routeUnit
  split
  case h_1 i _ => exact .of_units 1 hin ((pendUnit_held ..).trans (by rw [hheld])) hb
  case h_2 =>
    exact .of_units 1 ((bankUnit_received _).trans hin) ((bankUnit_held _).trans (by rw [hheld]))
      fun hc => bankUnit_bounded (hb hc)

theorem Accounts.coinUnits (n : Nat) (h : Accounts c s) : Accounts c (s.coinUnits n) := by
  induction n generalizing s with
  | zero => exact h
  | succ n ih =>
    refine ih (h.trans (Credit.Keeps.routeUnit ?_ rfl fun hb => ⟨hb.1, Nat.min_le_left ..⟩))
    exact add_right_comm ..

theorem Accounts.serviceUnit (h : Accounts c s) : Accounts c s.serviceUnit :=
  h.trans (Credit.Keeps.routeUnit (BitVec.add_assoc ..).symm rfl id)

/-! #### The credit unit's jobs and events -/

theorem Accounts.grantJob (h : Accounts c s) (j : Job) : Accounts c (grantJob j s) :=
  Accounts.complete (.withCredit (Credit.Keeps.grant h (Nat.min_le_right ..))) ..

theorem Accounts.withdrawCredit (h : Accounts c s) (j : Job) : Accounts c (withdrawCredit j s) :=
  Accounts.complete (.withCredit (Credit.Keeps.withdraw h (Nat.min_le_right ..))) ..

theorem Accounts.deliverJob (h : Accounts c s) (j : Job) : Accounts c (deliverJob j s) := by
  unfold Machine.deliverJob
  split
  · exact .ite ((h.moveUnits _ _).complete ..) (h.complete ..)
  all_goals exact h.complete ..

theorem Accounts.recallJob (h : Accounts c s) (j : Job) : Accounts c (recallJob j s) := by
  unfold Machine.recallJob
  split
  · exact h.complete ..
  · exact Accounts.complete (.withCredit (Credit.Keeps.returnPending h _)) ..

theorem Accounts.creditJob (h : Accounts c s) {act : Job → State → State}
    (hact : ∀ j u, Accounts c u → Accounts c (act j u)) (j : Job) : Accounts c (creditJob act j s) :=
  .ite (h.complete ..) (hact j s h)

theorem Accounts.amountJob (h : Accounts c s) {act : Job → State → State}
    (hact : ∀ j u, Accounts c u → Accounts c (act j u)) (j : Job) : Accounts c (amountJob act j s) :=
  .ite (h.complete ..) (hact j s h)

theorem Accounts.coinJob (h : Accounts c s) (j : Job) : Accounts c (coinJob j s) := by
  unfold Machine.coinJob
  split
  · exact h.complete ..
  · refine Accounts.complete (.withCredit ?_) ..
    exact h.trans ⟨id, id⟩

theorem Accounts.setLine (h : Accounts c s) (l : CoinLine) (m : CoinMeasure) (b : Bool) :
    Accounts c { s.sampleCoin l b with credit := s.credit.setLine l m } := by
  cases l <;> exact h.beside id id

theorem Accounts.coinBegin (h : Accounts c s) (l : CoinLine) : Accounts c (s.coinBegin l) :=
  .ite (h.setLine l (.measuring 1) true) h

theorem Accounts.coinEnd (h : Accounts c s) (l : CoinLine) : Accounts c (s.coinEnd l) := by
  have ht := h.setLine l .idle false
  unfold State.coinEnd
  split
  · exact h
  · exact ht
  · exact .ite (ht.coinUnits _) ht

theorem Accounts.coinJammed (h : Accounts c s) (l : CoinLine) : Accounts c (s.coinJammed l) := by
  unfold State.coinJammed
  split
  · exact (h.setLine l .jammed true).congr (by rfl)
  all_goals exact h

theorem Accounts.pulseStart (h : Accounts c s) (i : Slot) : Accounts c (s.pulseStart i) := by
  unfold State.pulseStart
  split
  · split
    case isTrue hdue =>
      simp only [State.coinPulseDue, Bool.and_eq_true, decide_eq_true_eq] at hdue
      exact Credit.Keeps.startPulse h i _ hdue.1.1.1
    case isFalse => exact h
  · exact h

theorem Accounts.meterStart (h : Accounts c s) : Accounts c s.meterStart :=
  .ite (h.beside id fun hb => ⟨hb.1, (Nat.sub_le ..).trans hb.2⟩) h

/-! #### The other blocks' jobs and events -/

theorem Accounts.takeIf (h : Accounts c s) {due : Job → Bool} {act : Job → State → State}
    (hact : ∀ j u, Accounts c u → Accounts c (act j u)) : Accounts c (s.takeIf due act) := by
  unfold State.takeIf
  split
  · exact h
  · exact .ite (hact _ _ (h.congr (by rfl))) h

/-- A job whose owner leaves the credit alone. -/
theorem Accounts.takeBeside (h : Accounts c s) {due : Job → Bool} {act : Job → State → State}
    (hact : ∀ j u, (act j u).credit = u.credit) : Accounts c (s.takeIf due act) :=
  h.takeIf fun j u hu => hu.congr (hact j u)

/-- A POWER job leaves the credit alone if its action does. -/
theorem powerJob_credit {act : Slot → Job → State → State} (hact : ∀ i j u, (act i j u).credit = u.credit) (j : Job)
    (s : State) : (powerJob act j s).credit = s.credit := by
  unfold powerJob State.completePower
  repeat' split
  all_goals simp [hact]

/-- An EEPROM job leaves the credit alone if its queueing does. -/
theorem eepromChecks_credit {ok : Nat → Nat → Bool} {act : Slot → Job → State → State}
    (hact : ∀ i j u, (act i j u).credit = u.credit) (j : Job) (s : State) :
    (eepromChecks ok act j s).credit = s.credit := by
  unfold eepromChecks
  repeat' split
  all_goals simp [hact]

theorem Accounts.switchJob (h : Accounts c s) (j : Job) : Accounts c (switchJob j s) := by
  unfold Machine.switchJob
  split
  · exact h.complete ..
  · exact h.takeSwitch _

theorem Accounts.abortJob (h : Accounts c s) (j : Job) : Accounts c (abortJob j s) := by
  have hactive : Accounts c (s.completeActive .aborted 0 s.switchData) := h.congr (by simp)
  unfold Machine.abortJob
  split
  case h_3 | h_4 => exact hactive.cancel.complete ..
  all_goals exact h.congr (by simp)

theorem Accounts.levelsJob (h : Accounts c s) (j : Job) : Accounts c (levelsJob j s) := by
  have hset (item : Nat) (src : Source) (v : Nat) : (s.setItem item src v).credit = s.credit := by
    unfold State.setItem
    repeat' split
    all_goals rfl
  have hlevel (item : Nat) (src : Source) (v : Nat) : Accounts c (s.setLevel j.cell item src v) := by
    unfold State.setLevel
    extract_lets v moves t u
    have hu : u.credit = s.credit := by
      refine (complete_credit ..).trans ?_
      unfold t
      split <;> simp [hset]
    exact .ite (h.congr hu).levelReached (h.congr hu)
  unfold Machine.levelsJob
  refine .ite (h.complete ..) ?_
  split
  · exact hlevel ..
  · exact .ite (h.complete ..) (hlevel ..)

/-! #### The host's writes -/

theorem Accounts.writeControl (h : Accounts c s) (v : Word) : Accounts c (s.writeControl v) := by
  unfold State.writeControl State.startRestart
  refine .ite ?_ h
  extract_lets t u
  have hdrop : t.dropPowerJobs.credit = s.credit := by rw [dropPowerJobs_eq]
  have hu : Accounts c u := (h.congr hdrop).restartHandOver.congr (restartBus_credit _)
  exact .ite hu hu

theorem Accounts.writeRegister (h : Accounts c s) (r : Register) (v : Word) : Accounts c (s.writeRegister r v) := by
  cases r with
  | post => exact h.congr (writePost_credit s v)
  | done => exact h.congr (writeDone_credit s v)
  | control => exact h.writeControl v
  | notice | noticeMask | ident => exact h

theorem Accounts.writeAt (h : Accounts c s) (addr : BitVec 13) (v : Word) : Accounts c (s.writeAt addr v) := by
  unfold State.writeAt
  split
  · exact h.writeRegister ..
  · exact h

/-! #### The slots and the adapter bus -/

theorem Accounts.removeSlot (h : Accounts c s) (i : Slot) : Accounts c (s.removeSlot i) := by
  refine .ite h (Accounts.controllerSlotFails ?_ i .removed)
  refine Accounts.congr (Accounts.removeCredit ?_ i) (removeRouter_credit _ i)
  exact h.congr ((removeBus_credit ..).trans (answerJob_credit ..))

theorem Accounts.overcurrent (h : Accounts c s) (i : Slot) : Accounts c (s.overcurrent i) := by
  refine .ite (Accounts.controllerSlotFails (Accounts.leaveAir ?_ i) i .overcurrent) h
  exact h.congr (answerJob_credit ..)

theorem Accounts.startFailed (h : Accounts c s) (i : Slot) : Accounts c (s.startFailed i) :=
  .ite (Accounts.congr (Accounts.controllerExpiry (s := s.setReason i .startTimeout) h i .startTimeout)
    (answerJob_credit ..)) h

theorem Accounts.graceOver (h : Accounts c s) (i : Slot) : Accounts c (s.graceOver i) :=
  .ite (Accounts.controllerExpiry (s := s.setReason i .lost) h i .lost) h

theorem Accounts.failPending (h : Accounts c s) (i : Slot) (p : PowerUp) (r : Result) (d : Nat) (reason : FailReason) :
    Accounts c (s.failPending i p r d reason) := by
  have ht : Accounts c ((s.modSlot i fun q => { q with powerUp := none }).answerJob i (some p) r d 0) :=
    h.congr (answerJob_credit ..)
  exact .ite (ht.pendingFailed ..) ht

theorem Accounts.checkPending (h : Accounts c s) (i : Slot) : Accounts c (s.checkPending i) := by
  unfold State.checkPending
  split
  · exact h
  · split
    · exact h.congr (by simp)
    · exact Accounts.failPending (h.congr (by split <;> rfl)) ..

theorem Accounts.cooled (h : Accounts c s) (i : Slot) : Accounts c (s.cooled i) := by
  have ht : Accounts c (s.reachOff i) := h.congr (reachOff_credit s i)
  exact .ite (.ite (ht.checkPending i) ht) h

theorem Accounts.loaded (h : Accounts c s) (i : Slot) (d : Descriptor) (cells : List CellNo) :
    Accounts c (s.loaded i d cells) := by
  unfold State.loaded
  extract_lets t u
  have hu : Accounts c u := h.congr (setRatio_credit ..)
  exact (Accounts.checkPending (hu.congr (completeAll_credit ..)) i).ratioAnnounced _

theorem Accounts.loadFailed (h : Accounts c s) (i : Slot) (u : Undescribed) (cells : List CellNo) :
    Accounts c (s.loadFailed i u cells) := by
  unfold State.loadFailed
  extract_lets t
  have ht : Accounts c t := h.congr (completeAll_credit ..)
  split
  · exact ht.failPending ..
  · exact ht

theorem Accounts.endRead (h : Accounts c s) (bytes : List Byte) : Accounts c (s.endRead bytes) := by
  unfold State.endRead State.readDone
  split
  · refine .ite (.ite ?_ (h.congr (completeAll_credit ..))) h
    split
    · exact Accounts.loadFailed (s := s.dequeue) h ..
    · exact Accounts.loaded (s := s.dequeue) h ..
  · exact h

theorem Accounts.nack (h : Accounts c s) (point : AckPoint) : Accounts c (s.nack point) := by
  have hread (q : BusRequest) : Accounts c (s.readNack q) :=
    .ite (Accounts.loadFailed (s := s.dequeue) h ..) (h.congr (completeAll_credit ..))
  unfold State.nack
  split
  case h_1 | h_2 | h_3 => exact hread _
  case h_4 | h_5 => exact h.congr (completeAll_credit ..)
  case h_6 => exact .ite (h.congr ((completeAll_credit ..).trans (stopWrite_credit ..))) h
  case h_7 => exact h

/-! #### Sync, the generator and the router -/

theorem Accounts.signal (h : Accounts c s) (src : Source) (e : SyncEvent) : Accounts c (s.signal src e) := by
  have hs : Accounts c ((s.markSource src).slotEvent src e) := h.congr (slotEvent_credit ..)
  unfold State.signal State.controllerEvent
  split
  · exact .ite (hs.congr (judge_credit _)) hs
  · exact hs.controllerLoses ..
  · exact hs.controllerLoses ..

theorem Accounts.signalIf (h : Accounts c s) (src : Source) (e : Option SyncEvent) : Accounts c (s.signalIf src e) := by
  unfold State.signalIf
  split
  · exact h.signal ..
  · exact h

theorem Accounts.announce (h : Accounts c s) (src : Source) (stamp : Stamp) : Accounts c (s.announce src stamp) := by
  unfold State.announce
  extract_lets u
  have hu : Accounts c u := h
  refine .ite (hu.congr (releaseHandled_credit _)) ?_
  split
  · exact Accounts.cutHandled (hu.congr (by rfl)) ..
  · exact hu

theorem Accounts.vsyncAt (h : Accounts c s) (src : Source) (input : SyncInput) (p : SyncPulse) :
    Accounts c (s.vsyncAt src input p) := by
  have htaken (u : State) (hu : Accounts c u) : Accounts c (u.vsyncTaken src input p.stamp) := by
    unfold State.vsyncTaken
    extract_lets r o v
    have hv : Accounts c v := Accounts.signalIf (hu.congr (by simp [State.recognise])) ..
    exact .ite (hv.announce ..) hv
  exact .ite (.ite (h.congr (advanceTo_credit ..)) (htaken _ (h.congr (takeCoincident_credit ..)))) h

theorem Accounts.polarityAt (h : Accounts c s) (src : Source) (input : SyncInput) :
    Accounts c (s.polarityAt src input) := .ite (Accounts.signalIf (h.congr (by rfl)) ..) h

theorem Accounts.lossOf (h : Accounts c s) (src : Source) : Accounts c (s.lossOf src) :=
  .ite (Accounts.signal (h.congr (by rfl)) ..) h

theorem Accounts.endFrame (h : Accounts c s) : Accounts c s.endFrame :=
  .ite (Accounts.onFinding (h.congr (by simp)) _) h

theorem Accounts.releaseTimeout (h : Accounts c s) : Accounts c s.releaseTimeout :=
  .ite (h.congr (releaseHandled_credit _)) h

theorem Accounts.lineOn (h : Accounts c s) (l : Line) : Accounts c (s.lineOn l) := by
  refine .ite h (Accounts.congr ?_ (settlePins_credit _))
  cases l with
  | service => exact Accounts.serviceUnit h
  | input | operatorKey => exact h

theorem Accounts.exitChord (h : Accounts c s) : Accounts c s.exitChord := by
  have hd : Accounts c s.chordDetected := h
  unfold State.exitChord
  split
  · exact .ite (.ite (Accounts.enterFadeOut (hd.congr (by rfl)) _) hd) h
  all_goals exact h

theorem Accounts.rampTick (h : Accounts c s) : Accounts c s.rampTick :=
  .ite (Accounts.levelReached (h.congr (rampOnce_credit s))) h

/-! #### The step -/

/-- What the part does by itself counts and queues: it moves no unit. -/
theorem Accounts.idle (h : Accounts c s) : Accounts c s.idle := by
  unfold State.idle
  split
  case h_6 => exact h.beside id id
  case h_10 => exact .ite (h.beside id id) h
  all_goals exact h

/-- The end of a command adds marks alone (R14). -/
theorem Accounts.finish {old new : State} (h : Accounts c new) (e : finish old new = .next t) : Accounts c t := by
  cases e
  exact h

theorem reset_balanced : State.reset.credit.Balanced := by
  unfold Credit.Balanced
  decide

theorem reset_bounded : State.reset.credit.Bounded := by
  unfold Credit.Bounded
  decide

/-- Every command keeps the accounts: units come in, move and go out by the credit unit's own operations alone. -/
theorem Accounts.exec (k : Instr) (s : State) {t : State} (e : exec k s = .next t) : Accounts s.credit t := by
  have h := Accounts.refl s
  cases k with
  | windowWrite addr v => exact (h.writeAt addr v).finish e
  | post v => exact (h.writeRegister .post v).finish e
  | done v => exact (h.writeRegister .done v).finish e
  | notice v => exact (h.writeRegister .notice v).finish e
  | noticeMask v => exact (h.writeRegister .noticeMask v).finish e
  | writeNoEffect => exact h.finish e
  | softRestart v => exact (h.writeControl v).finish e
  | softRestartEnd b => exact (h.congr (busStopped_credit s b)).finish e
  | powerOnReset =>
    cases e
    exact ⟨fun _ => reset_balanced, fun _ => reset_bounded⟩
  | unknownKind | setupBadGroup => exact (h.takeBeside fun _ _ => complete_credit ..).finish e
  | switch => exact (h.takeIf fun j _ hu => hu.switchJob j).finish e
  | abort => exact (h.takeIf fun j _ hu => hu.abortJob j).finish e
  | powerOff => exact (h.takeBeside (powerJob_credit fun i j u => powerOff_credit u i j)).finish e
  | powerOn => exact (h.takeBeside (powerJob_credit fun i j u => powerOn_credit u i j)).finish e
  | powerCycle => exact (h.takeBeside (powerJob_credit fun i j u => powerCycle_credit u i j)).finish e
  | pin | unpin => exact (h.takeBeside (powerJob_credit fun i j u => setPin_credit u i j _)).finish e
  | loadMap => exact (h.takeBeside fun j u => loadMapJob_credit u j).finish e
  | creditGrant =>
    exact (h.takeIf fun j _ hu => hu.creditJob (fun j _ hu => hu.amountJob (fun j _ hu => hu.grantJob j) j) j).finish e
  | creditWithdraw =>
    exact (h.takeIf fun j _ hu =>
      hu.creditJob (fun j _ hu => hu.amountJob (fun j _ hu => hu.withdrawCredit j) j) j).finish e
  | creditDeliver =>
    exact (h.takeIf fun j _ hu =>
      hu.creditJob (fun j _ hu => hu.amountJob (fun j _ hu => hu.deliverJob j) j) j).finish e
  | creditRecall => exact (h.takeIf fun j _ hu => hu.creditJob (fun j _ hu => hu.recallJob j) j).finish e
  | setLevels => exact (h.takeIf fun j _ hu => hu.levelsJob j).finish e
  | setupMonitor => exact (h.takeBeside fun j u => monitorJob_credit u j).finish e
  | setupGlide => exact (h.takeBeside fun j u => glideJob_credit u j).finish e
  | setupChord => exact (h.takeBeside fun j u => chordJob_credit u j).finish e
  | setupCoin => exact (h.takeIf fun j _ hu => hu.coinJob j).finish e
  | setupSupply => exact (h.takeBeside fun j u => supplyJob_credit u j).finish e
  | eepromRead => exact (h.takeBeside (eepromChecks_credit (act := queueRead) fun _ _ _ => rfl)).finish e
  | eepromWrite => exact (h.takeBeside (eepromChecks_credit fun i j u => queueWrite_credit u i j)).finish e
  | reload => exact (h.takeBeside fun j u => reloadJob_credit u j).finish e
  | pageUpdateStart id => exact (h.congr (pageStart_credit s id)).finish e
  | pageUpdateEnd id => exact (h.congr (pageEnd_credit s id)).finish e
  | presenceDetected i => exact (h.congr (presence_credit s i)).finish e
  | removal i => exact (h.removeSlot i).finish e
  | overcurrent i => exact (h.overcurrent i).finish e
  | settleTimerExpiry i => exact (h.congr (settled_credit s i)).finish e
  | startTimerExpiry i => exact (h.startFailed i).finish e
  | graceTimerExpiry i => exact (h.graceOver i).finish e
  | coolTimerExpiry i => exact (h.cooled i).finish e
  | busRequestStart => exact (h.congr (startRequest_credit s)).finish e
  | readTransactionEnd bytes => exact (h.endRead bytes).finish e
  | writeDataStop => exact (h.congr (dataStop_credit s)).finish e
  | ackPoll a => exact (h.congr (poll_credit s a)).finish e
  | writeTimeout => exact (h.congr (pollTimeout_credit s)).finish e
  | ackMissing p => exact (h.nack p).finish e
  | writeRecoveryEnd => exact (h.congr (recovered_credit s)).finish e
  | hsyncLeadingEdge src stamp => exact (h.congr (hsyncAt_credit s src stamp)).finish e
  | vsyncLeadingEdge src input p => exact (h.vsyncAt src input p).finish e
  | polarityChange src input => exact (h.polarityAt src input).finish e
  | hsyncLoss src | vsyncLoss src => exact (h.lossOf src).finish e
  | holdingLineStart => exact (h.congr (startLine_credit s)).finish e
  | holdingFrameEnd => exact h.endFrame.finish e
  | releaseTimerExpiry => exact (h.releaseTimeout).finish e
  | lineActivation l => exact (h.lineOn l).finish e
  | lineRelease l => exact (h.congr (lineOff_credit s l)).finish e
  | mapInstall i => exact (h.congr (installPending_credit s i)).finish e
  | pulseEntryEnd k n | autofireOnEnd k n | autofireOffEnd k n =>
    exact (h.congr (stepEntry_credit s k n.val _)).finish e
  | exitChord => exact h.exitChord.finish e
  | coinMeasuringBegins l => exact (h.coinBegin l).finish e
  | coinPulseEnd l => exact (h.coinEnd l).finish e
  | coinJam l => exact (h.coinJammed l).finish e
  | coinPulseStart i => exact (h.pulseStart i).finish e
  | coinPulseOnEnd i => exact (h.beside id id : Accounts s.credit (s.pulseOnEnd i)).finish e
  | coinPulseOffEnd i => exact (h.beside id id : Accounts s.credit (s.pulseOffEnd i)).finish e
  | meterPulseStart => exact h.meterStart.finish e
  | meterPulseOnEnd =>
    exact (h.beside id id : Accounts s.credit { s with credit.meter := s.credit.meter.map Pulse.rest }).finish e
  | meterPulseOffEnd =>
    exact (h.beside id id : Accounts s.credit { s with credit.meter := s.credit.meter.bind Pulse.ended }).finish e
  | rampStep => exact h.rampTick.finish e

/-- A step is the front command on the rest of the queue, or the part's own idling. -/
theorem step_accounts (e : step s = .next t) : Accounts s.credit t := by
  unfold step at e
  split at e
  case h_1 k rest _ => exact Accounts.exec k { s with pending := rest } e
  case h_2 => exact (Accounts.refl s).idle.finish e

/-- Settles O5: every step keeps the accounts, which conserve the units and bound the counts. -/
theorem coinUnitsConserved : Obligations.CoinUnitsConserved := by
  refine ⟨⟨rfl, rfl, rfl, rfl, rfl, (coinsConserved_iff _).2 reset_balanced⟩, fun s t h e => ?_, fun s t h e => ?_⟩
  · exact (coinsConserved_iff t).2 ((step_accounts e).units ((coinsConserved_iff s).1 h))
  · exact (creditBounded_iff t).2 ((step_accounts e).bounds ((creditBounded_iff s).1 h))

end
end Sys2Proof.Machine
end

section
namespace Sys2Proof.Machine

/-! ### CREDIT jobs at their take (R171 to R173) -/

section
variable {s : State} {j : Job}

/-- A CREDIT job is due at the row of its action (R171). -/
theorem isCredit_due {action : Nat} (h : NextJob s j 5) (ha : j.word 2 = action) : Job.isCredit action j = true := by
  obtain ⟨-, -, hk⟩ := h
  simp [Job.isCredit, Job.isKind, hk, ha]

/-- An action of R171 passes its check. -/
theorem creditJob_admitted (h : j.word 2 ≤ 3) (act : Job → State → State) (s : State) :
    creditJob act j s = act j s := if_neg (by omega)

/-- An amount of 1 to 9999 passes its check (R171). -/
theorem amountJob_inRange (h : 1 ≤ j.word 3 ∧ j.word 3 ≤ 9999) (act : Job → State → State) (s : State) :
    amountJob act j s = act j s := if_neg (by omega)

/-- Any other amount ends the job (R171). -/
theorem amountJob_outOfRange (h : j.word 3 < 1 ∨ 9999 < j.word 3) (act : Job → State → State) (s : State) :
    amountJob act j s = s.complete j.cell .badParam 3 [] := if_pos h

/-- A CREDIT job that its owner refuses ends at its take, and nothing else changes. -/
theorem credit_refused {action : Nat} {act : Job → State → State} (h : NextJob s j 5) (ha : j.word 2 = action)
    (hle : action ≤ 3) {r : Result} {d : Nat}
    (hact : act j (s.take j.cell) = (s.take j.cell).complete j.cell r d []) :
    ∃ t, finish s (s.takeIf (Job.isCredit action) (creditJob act)) = .next t ∧ EndsAtTake s t j r d [] ∧
      t = { s with window := t.window, intake := t.intake, pages := t.pages } := by
  have ⟨hwf, hhead, _⟩ := h
  exact refused_at_take hwf hhead (isCredit_due h ha) ((creditJob_admitted (ha ▸ hle) ..).trans hact)

/-- A CREDIT job that leaves the credit as `c` and completes OK changes beside the take the credit alone. -/
theorem credit_done {action : Nat} {act : Job → State → State} (h : NextJob s j 5) (ha : j.word 2 = action)
    (hle : action ≤ 3) {c : Credit} {data : List Nat}
    (hact : act j (s.take j.cell) = { s.take j.cell with credit := c }.complete j.cell .ok 0 data) :
    ∃ t, finish s (s.takeIf (Job.isCredit action) (creditJob act)) = .next t ∧ t.credit = c ∧
      EndsAtTake s t j .ok 0 data ∧
      t = { s with window := t.window, intake := t.intake, pages := t.pages, credit := t.credit } := by
  have ⟨hwf, hhead, _⟩ := h
  obtain ⟨w, n, p, he, hend, -⟩ := ended_at_take hwf hhead (isCredit_due h ha)
    ((creditJob_admitted (ha ▸ hle) ..).trans hact) rfl rfl (OnlyMarks.refl s)
  exact ⟨_, he, rfl, hend, rfl⟩

end

/-- Settles O30: in range the units move as the bank allows, and out of range the job is refused. -/
theorem grantAndWithdraw : Obligations.GrantAndWithdraw := by
  intro s j h
  refine ⟨fun hlow hhigh => ⟨fun ha => ?grant, fun ha => ?withdraw⟩, fun hout => ⟨fun ha => ?_, fun ha => ?_⟩⟩
  case grant =>
    obtain ⟨t, he, hc, hend, hframe⟩ := credit_done h ha (by decide) (amountJob_inRange ⟨hlow, hhigh⟩ grantJob _)
    exact ⟨t, he, hc, by rw [hc]; exact hend, hframe⟩
  case withdraw =>
    obtain ⟨t, he, hc, hend, hframe⟩ := credit_done h ha (by decide) (amountJob_inRange ⟨hlow, hhigh⟩ withdrawCredit _)
    exact ⟨t, he, hc, by rw [hc]; exact hend, hframe⟩
  all_goals exact credit_refused h ha (by decide) (amountJob_outOfRange hout ..)

/-- DELIVER to the slot on air in QUIET moves units from the bank to its pending pulses (R172). -/
theorem deliverJob_moves {s : State} {i : Slot} {d : Descriptor} (hq : s.ho.phase = .quiet)
    (hair : s.ho.onAir = some (.slot i)) (hcopy : s.copy i = some d) (j : Job) :
    let n := min (j.word 3) (min s.credit.bank (d.pulseCap - s.credit.pending.get i))
    deliverJob j s = { s with credit := s.credit.moveToPending i n }.complete j.cell .ok 0 [n, s.credit.bank - n] := by
  have hcap : s.pulseCap i = d.pulseCap := by simp only [State.pulseCap, hcopy]
  simp only [deliverJob, hair, hq, if_true, State.moveUnits, State.movable, hcap]

/-- DELIVER with no slot on air, or outside QUIET, is refused (R172). -/
theorem deliverJob_offAir {s : State} (h : s.ho.phase ≠ .quiet ∨ ∀ i, s.ho.onAir ≠ some (.slot i)) (j : Job) :
    deliverJob j s = s.complete j.cell .notOnAir 0 [] := by
  unfold deliverJob
  split
  case h_1 i hair => exact if_neg (h.resolve_right fun hno => hno i hair)
  all_goals rfl

/-- Settles O31: the units move to the slot on air, or the job is refused. -/
theorem creditDelivery : Obligations.CreditDelivery := by
  intro s j h ha hlow hhigh
  have hin (u : State) := amountJob_inRange ⟨hlow, hhigh⟩ deliverJob u
  refine ⟨fun i d hq hair hcopy => ?_, fun hno => ?_⟩
  · obtain ⟨t, he, hc, hend, hframe⟩ := credit_done h ha (by decide)
      ((hin _).trans (deliverJob_moves (s := s.take j.cell) hq hair hcopy j))
    exact ⟨t, he, hend, hc, hframe⟩
  · exact credit_refused h ha (by decide) ((hin _).trans (deliverJob_offAir (s := s.take j.cell) hno j))

/-- Settles O32: the pending pulses of the slot named are returned, and no slot named is refused. -/
theorem creditRecalled : Obligations.CreditRecalled := by
  intro s j h ha
  refine ⟨fun i hi => ?_, fun hno => credit_refused h ha (by decide) (by simp only [recallJob, hno])⟩
  have hrecall : recallJob j (s.take j.cell) = { s.take j.cell with credit := s.credit.returnPending i }.complete j.cell
      .ok 0 [s.credit.pending.get i, (s.credit.returnPending i).bank] := by
    simp only [recallJob, hi]
    rfl
  obtain ⟨t, he, hc, hend, hframe⟩ := credit_done h ha (by decide) hrecall
  exact ⟨t, he, by rw [hc]; exact hend, hc, hframe⟩

end Sys2Proof.Machine
end

section
namespace Sys2Proof.Machine

/-! ### The coin lines (R159 to R162) -/

section
variable {s : State} {l : CoinLine}

/-- A command that samples a coin line and leaves the credit as `c` changes beside the marks what the line shows. -/
theorem sampled_by {b : Bool} {c : Credit} {x : Host.Outcome State Fault Refusal}
    (hx : x = finish s { s.sampleCoin l b with credit := c }) :
    ∃ t, x = .next t ∧ t.credit = c ∧
      t = { s with credit := t.credit, router := t.router, pins := t.pins, pages := t.pages } ∧ OnlyMarks s t := by
  obtain ⟨p, he, hmarks, -⟩ := stepped_by hx ((OnlyMarks.refl s).congr (by cases l <;> rfl))
  exact ⟨_, he, rfl, by cases l <;> rfl, hmarks⟩

theorem coinBegin_idle (h : s.credit.line l = .idle) :
    s.coinBegin l = { s.sampleCoin l true with credit := s.credit.setLine l (.measuring 1) } := if_pos h

/-- A pulse that is no coin ends uncounted, and so does a jam (R159, R160). -/
theorem coinEnd_uncounted (h : (∃ w, s.credit.line l = .measuring w ∧ s.credit.setup.isCoin w = false) ∨
    s.credit.line l = .jammed) : s.coinEnd l = { s.sampleCoin l false with credit := s.credit.setLine l .idle } := by
  obtain ⟨w, hw, hno⟩ | hjam := h
  · simp only [State.coinEnd, hw, hno, Bool.false_eq_true, if_false]
  · simp only [State.coinEnd, hjam]

/-- A coin ends its pulse, and its units are counted and routed (R160, R161). -/
theorem coinEnd_coin {w : Nat} (h : s.credit.line l = .measuring w) (hcoin : s.credit.setup.isCoin w = true) :
    s.coinEnd l = ({ s.sampleCoin l false with credit := s.credit.setLine l .idle } : State).coinUnits
      (s.credit.setup.value l) := by
  simp only [State.coinEnd, h, hcoin, if_true]

/-- A unit of a coin with no source on air and room in the bank (R161, R162). -/
theorem coinUnit_banked (hair : s.ho.onAir = none) (hbank : s.credit.bank < 9999) : s.coinUnit = { s with
    credit := { s.credit with
      coins := s.credit.coins + 1, meterPending := min 65535 (s.credit.meterPending + 1),
      bank := s.credit.bank + 1 } } :=
  routeUnit_bank (s := { s with
    credit.coins := s.credit.coins + 1,
    credit.meterPending := min Config.meterMax (s.credit.meterPending + 1) }) hair hbank

/-- A measuring line jams, whatever its width (R160). -/
theorem coinJammed_measuring {w : Nat} (h : s.credit.line l = .measuring w) :
    s.coinJammed l = { (s.sampleCoin l true).setNotice 12 with credit := s.credit.setLine l .jammed } := by
  simp only [State.coinJammed, h]

end

/-- Settles O58: each clause is what the line's measurement makes of its sample. -/
theorem coinLineMeasures : Obligations.CoinLineMeasures := by
  refine fun s l => ⟨fun hidle => ?begins, fun w hw hmin hmax hvalue hair hbank => ?coin, fun hno => ?ends,
    fun w hw hwide => ?jams⟩
  case begins => exact sampled_by (congrArg (finish s) (coinBegin_idle hidle))
  case coin =>
    have hcoin : s.credit.setup.isCoin w = true := by simp [CoinSetup.isCoin, hmin, hmax]
    let u : State := { s.sampleCoin l false with credit := s.credit.setLine l .idle }
    have hu : u.ho.onAir = none ∧ u.credit.bank < 9999 := by cases l <;> exact ⟨hair, hbank⟩
    have hm : s.coinEnd l = { s.sampleCoin l false with credit := { s.credit.setLine l .idle with
        coins := s.credit.coins + 1, meterPending := min 65535 (s.credit.meterPending + 1),
        bank := s.credit.bank + 1 } } := by
      rw [coinEnd_coin hw hcoin, hvalue]
      refine (coinUnit_banked (s := u) hu.1 hu.2).trans ?_
      cases l <;> rfl
    exact sampled_by (congrArg (finish s) hm)
  case ends =>
    refine sampled_by (congrArg (finish s) (coinEnd_uncounted (hno.imp_left ?_)))
    rintro ⟨w, hw, hwidth⟩
    refine ⟨w, hw, ?_⟩
    simp only [CoinSetup.isCoin, Bool.and_eq_false_iff, decide_eq_false_iff_not]
    omega
  case jams =>
    obtain ⟨p, he, hmarks, -⟩ := stepped_by (congrArg (finish s) (coinJammed_measuring hw))
      ((OnlyMarks.refl s).congr (by cases l <;> rfl))
    refine ⟨_, he, rfl, ?_, ?_, ?_, hmarks⟩
    · cases l <;> simp [Credit.jam, Credit.setLine]
    · cases l <;> rfl
    · cases l <;> rfl

/-! ### Coin pulses and meter pulses (R166, R169) -/

/-- A command that leaves the credit as `c` changes beside the marks the credit alone. -/
theorem credited_by {s : State} {c : Credit} {x : Host.Outcome State Fault Refusal}
    (hx : x = finish s { s with credit := c }) : ∃ p, x = .next { s with credit := c, pages := p } ∧
      OnlyMarks s { s with credit := c, pages := p } := by
  obtain ⟨p, he, hmarks, -⟩ := stepped_by hx ((OnlyMarks.refl s).congr rfl)
  exact ⟨p, he, hmarks⟩

theorem pulseStart_due {s : State} {i : Slot} {d : Descriptor} (hpend : 0 < s.credit.pending.get i)
    (hair : s.ho.onAir = some (.slot i)) (hnone : s.credit.pulses.get i = none) (hcopy : s.copy i = some d) :
    s.pulseStart i = { s with credit := s.credit.startPulse i d } := by
  have hdue : s.coinPulseDue i = true := by simp [State.coinPulseDue, hpend, hair, hnone, hcopy]
  simp only [State.pulseStart, hcopy, hdue, if_true]

theorem meterStart_due {s : State} (hpend : 0 < s.credit.meterPending) (hnone : s.credit.meter = none) :
    s.meterStart = { s with credit := { s.credit with
      meterPending := s.credit.meterPending - 1,
      meter := some (.on s.credit.setup.meterOn s.credit.setup.meterOff) } } :=
  if_pos (by simp [Credit.meterDue, hpend, hnone])

/-- A pulse in its on time holds the pin at the active level of the copy in force (R166). -/
theorem coinPinHigh_on {s : State} {i : Slot} {d : Descriptor} {left off : Nat} (hcopy : s.copy i = some d)
    (hon : s.credit.pulses.get i = some (.on left off)) : s.coinPinHigh i = d.activeHigh := by
  simp only [State.coinPinHigh, hcopy, hon, Pulse.active, if_true]

/-- Settles O59: a start takes its unit, and each end of a phase is followed by the next. -/
theorem pulsesRun : Obligations.PulsesRun := by
  refine fun s => ⟨fun i d hpend hair hnone hcopy => ?coinStart, fun i left off hon => ?coinOnEnd,
    fun i left hoff => ?coinOffEnd, fun hpend hnone => ?meterStart, fun left off hon => ?meterOnEnd,
    fun left hoff => ?meterOffEnd⟩
  case coinStart =>
    obtain ⟨p, he, hmarks⟩ := credited_by (congrArg (finish s) (pulseStart_due hpend hair hnone hcopy))
    exact ⟨_, he, rfl, coinPinHigh_on hcopy (PerSlot.get_set_same ..), rfl, hmarks⟩
  case coinOnEnd =>
    have hrest : (s.credit.pulses.get i).map Pulse.rest = some (.off off) := by rw [hon]; rfl
    obtain ⟨p, he, hmarks⟩ := credited_by (s := s) (x := exec (.coinPulseOnEnd i) s) rfl
    exact ⟨_, he, by rw [hrest], rfl, hmarks⟩
  case coinOffEnd =>
    have hended : (s.credit.pulses.get i).bind Pulse.ended = none := by rw [hoff]; rfl
    obtain ⟨p, he, hmarks⟩ := credited_by (s := s) (x := exec (.coinPulseOffEnd i) s) rfl
    exact ⟨_, he, by rw [hended], rfl, hmarks⟩
  case meterStart =>
    obtain ⟨p, he, hmarks⟩ := credited_by (congrArg (finish s) (meterStart_due hpend hnone))
    exact ⟨_, he, rfl, rfl, rfl, hmarks⟩
  case meterOnEnd =>
    have hrest : s.credit.meter.map Pulse.rest = some (.off off) := by rw [hon]; rfl
    obtain ⟨p, he, hmarks⟩ := credited_by (s := s) (x := exec .meterPulseOnEnd s) rfl
    exact ⟨_, he, by rw [hrest], by simp only [State.meterDriven, hrest, Pulse.active], rfl, hmarks⟩
  case meterOffEnd =>
    have hended : s.credit.meter.bind Pulse.ended = none := by rw [hoff]; rfl
    obtain ⟨p, he, hmarks⟩ := credited_by (s := s) (x := exec .meterPulseOffEnd s) rfl
    exact ⟨_, he, by rw [hended], rfl, hmarks⟩

end Sys2Proof.Machine
end

section
namespace Sys2Proof.Machine

/-! ### SET_LEVELS at its take (R178, R179, R182) -/

section
variable {s : State} {j : Job} {src : Source}

/-- The setting of an item replaced, and the levels with it where the item moves them (R178, R179). -/
def State.levelSet (s : State) (item : Nat) (src : Source) (v : Nat) : State :=
  if s.levelsMove item src v then (s.setItem item src v).recomputeAudio else s.setItem item src v

/-- In QUIET the controller makes nothing of the levels that a SET_LEVELS leaves (R180, R182). -/
theorem setLevel_quiet {c : CellNo} {item value : Nat} {a : Audio} (hp : s.ho.phase = .quiet)
    (hset : s.levelSet item src (clampLevel item value) = { s with audio := a }) :
    s.setLevel c item src value = { s with audio := a }.complete c .ok 0
      [clampLevel item value, if clampLevel item value = value then 0 else 1, a.target, a.current] := by
  have hflag : flag (decide (clampLevel item value ≠ value)) = if clampLevel item value = value then 0 else 1 := by
    simp [flag]
  unfold State.levelSet at hset
  simp only [State.setLevel, hset, hflag]
  split
  · exact levelReached_idle (.inl (by simp [hp]))
  · rfl

/-- The source on air, seen and heard, has its own level for the target, which the level takes at once with no ramp
(R178, R179). -/
theorem recomputeAudio_heard (hp : s.ho.phase = .quiet) (hw : s.audio.wanted = some src)
    (hx : s.audio.crosspoint = some src) :
    let level := levelFormula s.audio.master (s.audio.ratios.get src) s.audio.floor
    s.recomputeAudio = { s with audio := { s.audio with
      target := level, current := if s.audio.ramp = 0 then level else s.audio.current } } := by
  have ht : s.audioTarget = levelFormula s.audio.master (s.audio.ratios.get src) s.audio.floor := by
    simp [State.audioTarget, hw, hx, hp]
  have hstay : s.retarget.crossover = s.retarget := if_neg fun hc => hc.1 (hx.trans hw.symm)
  rw [State.recomputeAudio, hstay, State.retarget, ht]

theorem levelSet_master (v : Nat) (other : Source) :
    s.levelSet 0 other v = { s with audio.master := v }.recomputeAudio := rfl

theorem levelSet_floor (v : Nat) (other : Source) :
    s.levelSet 2 other v = { s with audio.floor := v }.recomputeAudio := rfl

/-- A ratio of a source that is not on air leaves the levels alone (R178). -/
theorem levelSet_ratio_other {other : Source} (h : s.audio.wanted ≠ some other) (v : Nat) :
    s.levelSet 1 other v = { s with audio := { s.audio with ratios := s.audio.ratios.set other v } } :=
  if_neg (by simp [State.levelsMove, h])

/-- A ramp above 0 leaves the levels alone (R178, R179). -/
theorem levelSet_ramp {v : Nat} (h : 0 < v) (other : Source) :
    s.levelSet 3 other v = { s with audio := { s.audio with ramp := v } } :=
  if_neg (by simp [State.levelsMove, h.ne'])

/-- The word that names a source counts for a ratio alone (R182). -/
theorem levelsJob_cabinet {item : Nat} (ha : j.word 2 = item) (hle : item ≤ 3) (hne : item ≠ 1) (s : State) :
    ∃ other, levelsJob j s = s.setLevel j.cell item other (j.word 4) := by
  subst ha
  unfold levelsJob
  rw [if_neg (by omega)]
  split
  case h_1 other _ => exact ⟨other, rfl⟩
  case h_2 => exact ⟨.menu, if_neg hne⟩

/-- A ratio of a source in range is set (R182). -/
theorem levelsJob_ratio {other : Source} (ha : j.word 2 = 1) (ho : Source.ofNumber (j.word 3) = some other)
    (s : State) : levelsJob j s = s.setLevel j.cell 1 other (j.word 4) := by
  rw [levelsJob, if_neg (by omega)]
  simp only [ho, ha]

/-- An item out of range is refused (R182). -/
theorem levelsJob_badItem (h : 3 < j.word 2) (s : State) : levelsJob j s = s.complete j.cell .badParam 2 [] := if_pos h

/-- A ratio of a source out of range is refused (R182). -/
theorem levelsJob_badSource (ha : j.word 2 = 1) (ho : Source.ofNumber (j.word 3) = none) (s : State) :
    levelsJob j s = s.complete j.cell .badParam 3 [] := by
  rw [levelsJob, if_neg (by omega)]
  simp only [ho, ha, if_true]

theorem isLevels_due (h : NextJob s j 6) : Job.isKind 6 j = true := by
  obtain ⟨-, -, hk⟩ := h
  simp [Job.isKind, hk]

/-- A SET_LEVELS taken in QUIET that leaves the unit as `a` changes beside the take the unit alone. -/
theorem levels_done {item : Nat} {other : Source} {a : Audio} (h : NextJob s j 6) (hp : s.ho.phase = .quiet)
    (hjob : levelsJob j (s.take j.cell) = (s.take j.cell).setLevel j.cell item other (j.word 4))
    (hset : (s.take j.cell).levelSet item other (clampLevel item (j.word 4)) = { s.take j.cell with audio := a }) :
    ∃ t, exec .setLevels s = .next t ∧ t.audio = a ∧
      EndsAtTake s t j .ok 0 [clampLevel item (j.word 4), if clampLevel item (j.word 4) = j.word 4 then 0 else 1,
        a.target, a.current] ∧
      t = { s with window := t.window, intake := t.intake, pages := t.pages, audio := t.audio } := by
  have ⟨hwf, hhead, _⟩ := h
  obtain ⟨w, n, p, he, hend, -⟩ := ended_at_take (act := levelsJob) hwf hhead (isLevels_due h)
    (hjob.trans (setLevel_quiet hp hset)) rfl rfl (OnlyMarks.refl s)
  exact ⟨_, he, rfl, hend, rfl⟩

/-- A SET_LEVELS of the master, the floor or the ramp taken in QUIET, whatever source it names. -/
theorem cabinetLevels_done {item : Nat} {a : Audio} (h : NextJob s j 6) (hp : s.ho.phase = .quiet)
    (ha : j.word 2 = item) (hle : item ≤ 3) (hne : item ≠ 1)
    (hset : ∀ other, (s.take j.cell).levelSet item other (clampLevel item (j.word 4)) =
      { s.take j.cell with audio := a }) :
    ∃ t, exec .setLevels s = .next t ∧ t.audio = a ∧
      EndsAtTake s t j .ok 0 [clampLevel item (j.word 4), if clampLevel item (j.word 4) = j.word 4 then 0 else 1,
        t.audio.target, t.audio.current] ∧
      t = { s with window := t.window, intake := t.intake, pages := t.pages, audio := t.audio } := by
  obtain ⟨other, hjob⟩ := levelsJob_cabinet ha hle hne (s.take j.cell)
  obtain ⟨t, he, hc, hend, hframe⟩ := levels_done h hp hjob (hset other)
  exact ⟨t, he, hc, by rw [hc]; exact hend, hframe⟩

end

/-- Settles O33: each item is the setting replaced with the levels it moves, and what is out of range is refused. -/
theorem levelsSet : Obligations.LevelsSet := by
  intro s j src h hp hw hx v clamped
  have ⟨hwf, hhead, _⟩ := h
  have hdue := isLevels_due h
  refine ⟨fun ha => ?master, fun ha => ?floor, fun other ha ho hne => ?ratio, fun ha hpos => ?ramp,
    fun hbad => refused_at_take hwf hhead hdue (levelsJob_badItem hbad _),
    fun ha hno => refused_at_take hwf hhead hdue (levelsJob_badSource ha hno _)⟩
  case master =>
    exact cabinetLevels_done h hp ha (by decide) (by decide) fun other =>
      (levelSet_master v other).trans (recomputeAudio_heard (s := { s.take j.cell with audio.master := v }) hp hw hx)
  case floor =>
    exact cabinetLevels_done h hp ha (by decide) (by decide) fun other =>
      (levelSet_floor v other).trans (recomputeAudio_heard (s := { s.take j.cell with audio.floor := v }) hp hw hx)
  case ratio =>
    have hother : s.audio.wanted ≠ some other := fun hc => hne (Option.some.inj (hc.symm.trans hw))
    exact levels_done h hp (levelsJob_ratio ha ho _) (levelSet_ratio_other (s := s.take j.cell) hother v)
  case ramp =>
    obtain ⟨other, hjob⟩ := levelsJob_cabinet ha (by decide) (by decide) (s.take j.cell)
    exact levels_done h hp hjob (levelSet_ramp (Nat.lt_min.2 ⟨hpos, by decide⟩) other)

end Sys2Proof.Machine
end

section
/-! The queue of waiting commands is the model's own (assumption 7). One rule for each operation of the part: it leaves
the queue alone, as its branches do by the rules of the operations they call. The statements about the step and the queue
follow from the rules. -/

namespace Sys2Proof.Machine

section
variable (s : State)

/-! ### The operations that the blocks share -/

@[simp] theorem State.intakeFault_pending (c : CellNo) (reason : IntakeFault) :
    (s.intakeFault c reason).pending = s.pending := rfl

@[simp] theorem State.advanceTo_pending (t : Stamp) : (s.advanceTo t).pending = s.pending := by
  unfold State.advanceTo
  split <;> rfl

/-- The action of a job's command that leaves the queue alone, at its take. -/
theorem takeIf_pending {due : Job → Bool} {act : Job → State → State}
    (hact : ∀ j u, (act j u).pending = u.pending) : (s.takeIf due act).pending = s.pending := by
  unfold State.takeIf
  split
  · rfl
  · split
    · exact hact ..
    · rfl

/-! ### The audio level unit -/

@[simp] theorem State.retarget_pending : s.retarget.pending = s.pending := rfl

@[simp] theorem State.crossover_pending : s.crossover.pending = s.pending := by
  unfold State.crossover
  split <;> rfl

@[simp] theorem State.recomputeAudio_pending : s.recomputeAudio.pending = s.pending := by simp [State.recomputeAudio]

@[simp] theorem State.setWanted_pending (src : Option Source) :
    (s.setWanted src).pending = s.pending := by simp [State.setWanted]

@[simp] theorem State.muteAndLeave_pending : s.muteAndLeave.pending = s.pending := by simp [State.muteAndLeave]

@[simp] theorem State.setRatio_pending (src : Source) (r : Nat) : (s.setRatio src r).pending = s.pending := by
  unfold State.setRatio
  split <;> simp

@[simp] theorem State.rampOnce_pending : s.rampOnce.pending = s.pending := by simp [State.rampOnce]

/-! ### The credit unit -/

@[simp] theorem State.routeUnit_pending : s.routeUnit.pending = s.pending := by
  unfold State.routeUnit
  split <;> rfl

@[simp] theorem State.coinUnit_pending : s.coinUnit.pending = s.pending := by simp [State.coinUnit]

@[simp] theorem State.coinUnits_pending (n : Nat) : (State.coinUnits n s).pending = s.pending := by
  induction n generalizing s with
  | zero => rfl
  | succ n ih => exact (ih _).trans (by simp)

@[simp] theorem State.serviceUnit_pending : s.serviceUnit.pending = s.pending := by simp [State.serviceUnit]

@[simp] theorem State.removeCredit_pending (i : Slot) : (s.removeCredit i).pending = s.pending := rfl

@[simp] theorem State.moveUnits_pending (i : Slot) (n : Nat) : (s.moveUnits i n).pending = s.pending := rfl

@[simp] theorem State.sampleCoin_pending (l : CoinLine) (b : Bool) : (s.sampleCoin l b).pending = s.pending := by
  unfold State.sampleCoin
  split <;> rfl

/-! ### The measurement records -/

@[simp] theorem State.emptyRecord_pending (i : Slot) : (s.emptyRecord i).pending = s.pending := rfl

@[simp] theorem State.wakeRecord_pending (i : Slot) : (s.wakeRecord i).pending = s.pending := rfl

@[simp] theorem State.requestNewRun_pending (i : Slot) : (s.requestNewRun i).pending = s.pending := by
  simp only [State.requestNewRun]
  split <;> simp

/-! ### Operations one after the other -/

/-- Operations that leave the queue alone leave it alone one after the other. -/
theorem foldl_pending {α : Type} {f : State → α → State} (hf : ∀ u a, (f u a).pending = u.pending)
    (xs : List α) : (xs.foldl f s).pending = s.pending := by
  induction xs generalizing s with
  | nil => rfl
  | cons x xs ih => exact (ih (f s x)).trans (hf s x)

@[simp] theorem State.completeAll_pending (cells : List CellNo) (r : Result) (detail : Nat) (data : List Nat) :
    (s.completeAll cells r detail data).pending = s.pending := foldl_pending s (fun u _ => complete_pending u ..) cells

/-! ### The slot manager -/

@[simp] theorem State.evictAll_pending (vs : List Slot) : (s.evictAll vs).pending = s.pending :=
  foldl_pending s State.toCooling_pending vs

@[simp] theorem State.reloadRestarts_pending (i : Slot) : (s.reloadRestarts i).pending = s.pending := by
  unfold State.reloadRestarts
  split <;> rfl

@[simp] theorem State.powerSlot_pending (i : Slot) (vs : List Slot) :
    (s.powerSlot i vs).pending = s.pending := by simp [State.powerSlot]

@[simp] theorem State.request_pending (i : Slot) (q : Requester) : (s.request i q).2.pending = s.pending := by
  unfold State.request
  split
  case h_1 => split <;> simp
  case h_3 => split <;> simp
  all_goals simp

@[simp] theorem State.withdrawHandOver_pending (i : Slot) : (s.withdrawHandOver i).pending = s.pending := by
  unfold State.withdrawHandOver
  split <;> rfl

@[simp] theorem State.withdrawJob_pending (i : Slot) : (s.withdrawJob i).pending = s.pending := rfl

@[simp] theorem State.answerJob_pending (i : Slot) (p : Option PowerUp) (r : Result) (detail : Nat) (mask : Word) :
    (s.answerJob i p r detail mask).pending = s.pending := by
  unfold State.answerJob
  split <;> simp

@[simp] theorem State.queueLoad_pending (kind : BusKind) (i : Slot) (cells : List CellNo) :
    (s.queueLoad kind i cells).pending = s.pending := rfl

@[simp] theorem State.reachOff_pending (i : Slot) : (s.reachOff i).pending = s.pending := by
  unfold State.reachOff
  split <;> rfl

@[simp] theorem State.descriptorEffect_pending (i : Slot) : (s.descriptorEffect i).1.pending = s.pending := by
  unfold State.descriptorEffect
  split <;> rfl

@[simp] theorem State.enterLost_pending (i : Slot) : (s.enterLost i).pending = s.pending := by
  unfold State.enterLost
  split <;> rfl

@[simp] theorem State.slotStable_pending (i : Slot) : (s.slotStable i).pending = s.pending := by
  unfold State.slotStable
  split <;> simp

@[simp] theorem State.restartDecision_pending (i : Slot) : (s.restartDecision i).pending = s.pending := rfl

@[simp] theorem State.releaseSlot_pending (i : Slot) : (s.releaseSlot i).pending = s.pending := by
  unfold State.releaseSlot
  split <;> rfl

@[simp] theorem State.cutSlot_pending (i : Slot) : (s.cutSlot i).pending = s.pending := by
  unfold State.cutSlot
  split <;> rfl

/-! ### The hand-over controller -/

@[simp] theorem State.setPhase_pending (p : Phase) : (s.setPhase p).pending = s.pending := by
  unfold State.setPhase
  split <;> rfl

@[simp] theorem State.completeActive_pending (r : Result) (detail : Nat) (data : SwitchJob → List Nat) :
    (s.completeActive r detail data).pending = s.pending := by
  unfold State.completeActive
  split <;> simp

@[simp] theorem State.completeActiveOk_pending : s.completeActiveOk.pending = s.pending := by
  unfold State.completeActiveOk
  split <;> simp

@[simp] theorem State.judgeMenu_pending : s.judgeMenu.pending = s.pending := by
  unfold State.judgeMenu
  split <;> simp

@[simp] theorem State.withdrawTarget_pending : s.withdrawTarget.pending = s.pending := by
  unfold State.withdrawTarget
  split <;> simp

@[simp] theorem State.fallback_pending (reason : FailReason) :
    (s.fallback reason).pending = s.pending := by simp [State.fallback]

@[simp] theorem State.failToFallback_pending (reason : FailReason) :
    (s.failToFallback reason).pending = s.pending := by simp [State.failToFallback]

@[simp] theorem State.judge_pending : s.judge.pending = s.pending := by
  unfold State.judge
  split
  · split
    · exact judgeMenu_pending s
    · split
      · split <;> simp
      · rfl
    · rfl
  · rfl

@[simp] theorem State.releaseOutgoing_pending : s.releaseOutgoing.pending = s.pending := by
  unfold State.releaseOutgoing
  split <;> simp

@[simp] theorem State.releaseHandled_pending : s.releaseHandled.pending = s.pending := by simp [State.releaseHandled]

@[simp] theorem State.outgoingFailure_pending :
    s.outgoingFailure.pending = s.pending := by simp [State.outgoingFailure]

@[simp] theorem State.lossStart_pending : s.lossStart.pending = s.pending := by simp [State.lossStart]

@[simp] theorem State.recordFeed_pending (src : Source) : (s.recordFeed src).pending = s.pending := by
  unfold State.recordFeed
  split <;> rfl

@[simp] theorem State.startRecovery_pending (src : Source) :
    (s.startRecovery src).pending = s.pending := by simp [State.startRecovery]

@[simp] theorem State.lossFallback_pending (i : Slot) (reason : FailReason) :
    (s.lossFallback i reason).pending = s.pending := by simp [State.lossFallback]

@[simp] theorem State.toQuiet_pending : s.toQuiet.pending = s.pending := by simp [State.toQuiet]

@[simp] theorem State.returnToQuiet_pending : s.returnToQuiet.pending = s.pending := by
  unfold State.returnToQuiet
  split <;> simp

@[simp] theorem State.fadeInEnd_pending : s.fadeInEnd.pending = s.pending := by simp [State.fadeInEnd]

@[simp] theorem State.enterRelease_pending : s.enterRelease.pending = s.pending := by simp [State.enterRelease]

@[simp] theorem State.levelAnnounced_pending : s.levelAnnounced.pending = s.pending := by
  unfold State.levelAnnounced
  split
  · split
    · split <;> simp
    · exact fadeInEnd_pending s
    · rfl
  · rfl

@[simp] theorem State.enterFadeOut_pending (src : Source) :
    (s.enterFadeOut src).pending = s.pending := by simp [State.enterFadeOut]

@[simp] theorem State.reopenFeed_pending (src : Source) : (s.reopenFeed src).pending = s.pending := by
  unfold State.reopenFeed
  split <;> simp [apply_ite State.pending]

@[simp] theorem State.cancel_pending : s.cancel.pending = s.pending := by
  unfold State.cancel
  split <;> simp

@[simp] theorem State.targetFailure_pending (reason : FailReason) : (s.targetFailure reason).pending = s.pending := by
  unfold State.targetFailure
  split <;> simp [apply_ite State.pending]

@[simp] theorem State.pendingFailed_pending (r : Result) (detail : Nat) (reason : FailReason) :
    (s.pendingFailed r detail reason).pending = s.pending := by simp [State.pendingFailed]

@[simp] theorem State.requestFor_pending (i : Slot) (j : SwitchJob) (cold : Bool) :
    (s.requestFor i j cold).2.pending = s.pending := by simp [State.requestFor]

@[simp] theorem State.prepareSlot_pending (i : Slot) (j : SwitchJob) : (s.prepareSlot i j).2.pending = s.pending := by
  unfold State.prepareSlot
  split
  case h_1 | h_2 => split <;> rfl
  all_goals simp

@[simp] theorem State.prepare_pending (j : SwitchJob) : (s.prepare j).2.pending = s.pending := by
  unfold State.prepare
  split
  · split <;> rfl
  · split
    · rfl
    · exact prepareSlot_pending s _ j

@[simp] theorem State.applyPin_pending (j : SwitchJob) : (s.applyPin j).pending = s.pending := by
  unfold State.applyPin
  split <;> simp [apply_ite State.pending]

@[simp] theorem State.adopt_pending (j : SwitchJob) (cold : Bool) (mask : Word) :
    (s.adopt j cold mask).pending = s.pending := rfl

@[simp] theorem State.startHandOver_pending (j : SwitchJob) (cold : Bool) (mask : Word) :
    (s.startHandOver j cold mask).pending = s.pending := by
  simp only [State.startHandOver]
  split <;> simp

@[simp] theorem State.retargetTo_pending (target : Source) : (s.retargetTo target).pending = s.pending := by
  simp only [State.retargetTo]
  split <;> simp

@[simp] theorem State.replaceActive_pending (j : SwitchJob) (cold : Bool) (mask : Word) :
    (s.replaceActive j cold mask).pending = s.pending := by
  simp only [State.replaceActive]
  split <;> simp [apply_ite State.pending]

@[simp] theorem State.makeWait_pending (j : SwitchJob) : (s.makeWait j).pending = s.pending := by
  unfold State.makeWait
  split <;> simp

@[simp] theorem State.completeAtChecks_pending (j : SwitchJob) (v : Verdict) :
    (s.completeAtChecks j v).pending = s.pending := by
  unfold State.completeAtChecks
  split <;> simp

@[simp] theorem State.switchInQuiet_pending (j : SwitchJob) : (s.switchInQuiet j).pending = s.pending := by
  simp only [State.switchInQuiet]
  split <;> simp

@[simp] theorem State.switchInFlight_pending (j : SwitchJob) : (s.switchInFlight j).pending = s.pending := by
  simp only [State.switchInFlight]
  split <;> simp

@[simp] theorem State.takeSwitch_pending (j : SwitchJob) : (s.takeSwitch j).pending = s.pending := by
  unfold State.takeSwitch
  split <;> simp

@[simp] theorem State.takeUpWaiting_pending : s.takeUpWaiting.pending = s.pending := by
  unfold State.takeUpWaiting
  split <;> simp

@[simp] theorem State.levelReached_pending : s.levelReached.pending = s.pending := by
  unfold State.levelReached
  split <;> simp

@[simp] theorem State.ratioAnnounced_pending (src : Source) : (s.ratioAnnounced src).pending = s.pending := by
  unfold State.ratioAnnounced
  split <;> simp

@[simp] theorem State.failInFadeIn_pending {handle : State → State} (hh : ∀ u, (handle u).pending = u.pending) :
    (s.failInFadeIn handle).pending = s.pending := by simp [State.failInFadeIn, hh]

@[simp] theorem State.controllerLoses_pending (src : Source) (noSync : Bool) :
    (s.controllerLoses src noSync).pending = s.pending := by
  unfold State.controllerLoses
  split <;> simp [apply_ite State.pending]

@[simp] theorem State.controllerSlotFails_pending (i : Slot) (reason : FailReason) :
    (s.controllerSlotFails i reason).pending = s.pending := by
  unfold State.controllerSlotFails
  split <;> simp [apply_ite State.pending]

@[simp] theorem State.controllerExpiry_pending (i : Slot) (reason : FailReason) :
    (s.controllerExpiry i reason).pending = s.pending := by
  unfold State.controllerExpiry
  split <;> simp [apply_ite State.pending]

@[simp] theorem State.chordFallback_pending (i : Slot) :
    (s.chordFallback i).pending = s.pending := by simp [State.chordFallback]

@[simp] theorem State.countFrame_pending : s.countFrame.pending = s.pending := by
  unfold State.countFrame
  split <;> rfl

@[simp] theorem State.onFinding_pending (f : Finding) : (s.onFinding f).pending = s.pending := by
  unfold State.onFinding
  split
  case h_3 => split <;> simp
  case h_5 => split <;> simp
  all_goals rfl

@[simp] theorem State.cutCredit_pending (src : Source) : (s.cutCredit src).pending = s.pending := by
  unfold State.cutCredit
  split <;> rfl

@[simp] theorem State.cutSource_pending (src : Source) : (s.cutSource src).pending = s.pending := by
  unfold State.cutSource
  split <;> simp

@[simp] theorem State.cutHandled_pending (src : Source) (rough : Bool) :
    (s.cutHandled src rough).pending = s.pending := by simp [State.cutHandled]

@[simp] theorem State.backToOutgoing_pending (src : Source) : (s.backToOutgoing src).pending = s.pending := by
  unfold State.backToOutgoing
  split <;> simp

@[simp] theorem State.chooseAnew_pending : s.chooseAnew.pending = s.pending := by
  unfold State.chooseAnew
  split <;> simp [apply_ite State.pending]

@[simp] theorem State.restartHandOver_pending : s.restartHandOver.pending = s.pending := by
  simp only [State.restartHandOver]
  split <;> simp

@[simp] theorem State.rampTick_pending : s.rampTick.pending = s.pending := by
  unfold State.rampTick
  split <;> simp

/-! ### The host's writes, the soft restart and the page writer -/

@[simp] theorem State.postCell_pending (c : CellNo) : (s.postCell c).pending = s.pending := rfl

@[simp] theorem State.writePost_pending (value : Word) : (s.writePost value).pending = s.pending :=
  (foldl_pending _ (fun u c => u.intakeFault_pending c _) _).trans (foldl_pending s State.postCell_pending _)

@[simp] theorem State.returnCell_pending (c : CellNo) : (s.returnCell c).pending = s.pending := by
  unfold State.returnCell
  split <;> rfl

@[simp] theorem State.writeDone_pending (value : Word) : (s.writeDone value).pending = s.pending :=
  foldl_pending s State.returnCell_pending _

@[simp] theorem State.dropPowerJobs_pending : s.dropPowerJobs.pending = s.pending :=
  foldl_pending s State.withdrawJob_pending _

@[simp] theorem State.writeEffect_pending (q : BusRequest) : (s.writeEffect q).1.pending = s.pending := by
  unfold State.writeEffect
  split <;> simp

@[simp] theorem State.stopWrite_pending (q : BusRequest) :
    (s.stopWrite q).1.pending = s.pending := by simp [State.stopWrite]

@[simp] theorem State.restartBus_pending : s.restartBus.pending = s.pending := by
  unfold State.restartBus
  split
  · rfl
  · split
    · rfl
    · split
      · split <;> simp
      all_goals rfl

@[simp] theorem State.endRestart_pending : s.endRestart.pending = s.pending := rfl

@[simp] theorem State.startRestart_pending : s.startRestart.pending = s.pending := by
  simp only [State.startRestart]
  split <;> simp

@[simp] theorem State.writeControl_pending (value : Word) : (s.writeControl value).pending = s.pending := by
  unfold State.writeControl
  split <;> simp

@[simp] theorem State.stopPolling_pending (q : BusRequest) (polls : Nat) (acknowledged : Bool) :
    (s.stopPolling q polls acknowledged).pending = s.pending := by
  unfold State.stopPolling
  split <;> simp

@[simp] theorem State.stopTransaction_pending (dataByteSent : Bool) :
    (s.stopTransaction dataByteSent).pending = s.pending := by
  unfold State.stopTransaction
  split
  · rfl
  · split
    · exact stopPolling_pending ..
    all_goals split <;> simp

@[simp] theorem State.busStopped_pending (dataByteSent : Bool) : (s.busStopped dataByteSent).pending = s.pending := by
  unfold State.busStopped
  split <;> simp [apply_ite State.pending]

@[simp] theorem State.writeRegister_pending (r : Register) (value : Word) :
    (s.writeRegister r value).pending = s.pending := by
  unfold State.writeRegister
  split <;> simp

@[simp] theorem State.writeAt_pending (addr : BitVec 13) (value : Word) :
    (s.writeAt addr value).pending = s.pending := by
  unfold State.writeAt
  split <;> simp

@[simp] theorem State.notePage_pending (id : PageId) : (s.notePage id).pending = s.pending := by
  unfold State.notePage
  split <;> rfl

@[simp] theorem State.pageStart_pending (id : PageId) : (s.pageStart id).pending = s.pending := by
  simp only [State.pageStart]
  split <;> simp

@[simp] theorem State.pageEnd_pending (id : PageId) : (s.pageEnd id).pending = s.pending := by
  simp only [State.pageEnd]
  split <;> simp

/-! ### The slots' events -/

@[simp] theorem State.presence_pending (i : Slot) : (s.presence i).pending = s.pending := by
  unfold State.presence
  split <;> rfl

@[simp] theorem State.emptySlot_pending (i : Slot) : (s.emptySlot i).pending = s.pending := rfl

@[simp] theorem State.removeBus_pending (i : Slot) : (s.removeBus i).pending = s.pending := by
  simp only [State.removeBus]
  split <;> simp

@[simp] theorem State.removeRouter_pending (i : Slot) : (s.removeRouter i).pending = s.pending := by
  unfold State.removeRouter
  split <;> simp

@[simp] theorem State.removeSlot_pending (i : Slot) : (s.removeSlot i).pending = s.pending := by
  unfold State.removeSlot
  split <;> simp

@[simp] theorem State.faultSlot_pending (i : Slot) : (s.faultSlot i).pending = s.pending := rfl

@[simp] theorem State.overcurrent_pending (i : Slot) : (s.overcurrent i).pending = s.pending := by
  unfold State.overcurrent
  split <;> simp

@[simp] theorem State.settled_pending (i : Slot) : (s.settled i).pending = s.pending := by
  unfold State.settled
  split <;> simp

@[simp] theorem State.startFailed_pending (i : Slot) : (s.startFailed i).pending = s.pending := by
  unfold State.startFailed
  split <;> simp

@[simp] theorem State.graceOver_pending (i : Slot) : (s.graceOver i).pending = s.pending := by
  unfold State.graceOver
  split <;> simp

@[simp] theorem State.reportMask_pending (i : Slot) (p : PowerUp) (mask : Word) :
    (s.reportMask i p mask).pending = s.pending := by
  unfold State.reportMask
  split <;> rfl

@[simp] theorem State.failPending_pending (i : Slot) (p : PowerUp) (r : Result) (detail : Nat) (reason : FailReason) :
    (s.failPending i p r detail reason).pending = s.pending := by
  unfold State.failPending
  split <;> simp

@[simp] theorem State.checkPending_pending (i : Slot) : (s.checkPending i).pending = s.pending := by
  unfold State.checkPending
  split
  · rfl
  · split
    · simp
    · split <;> simp

@[simp] theorem State.cooled_pending (i : Slot) : (s.cooled i).pending = s.pending := by
  unfold State.cooled
  split <;> simp [apply_ite State.pending]

/-! ### The adapter bus's events -/

@[simp] theorem State.startRequest_pending : s.startRequest.pending = s.pending := by
  unfold State.startRequest
  split <;> rfl

@[simp] theorem State.refitMap_pending (i : Slot) (d : Descriptor) : (s.refitMap i d).pending = s.pending := rfl

@[simp] theorem State.loaded_pending (i : Slot) (d : Descriptor) (cells : List CellNo) :
    (s.loaded i d cells).pending = s.pending := by simp [State.loaded]

@[simp] theorem State.loadFailed_pending (i : Slot) (u : Undescribed) (cells : List CellNo) :
    (s.loadFailed i u cells).pending = s.pending := by
  simp only [State.loadFailed]
  split <;> simp

@[simp] theorem State.readDone_pending (q : BusRequest) (bytes : List Byte) :
    (s.readDone q bytes).pending = s.pending := by
  unfold State.readDone
  split
  · split <;> simp
  · simp

@[simp] theorem State.endRead_pending (bytes : List Byte) : (s.endRead bytes).pending = s.pending := by
  unfold State.endRead
  split <;> simp [apply_ite State.pending]

@[simp] theorem State.dataStop_pending : s.dataStop.pending = s.pending := by
  unfold State.dataStop
  split <;> rfl

@[simp] theorem State.endWrite_pending (q : BusRequest) (r : Result) (polls : Nat) :
    (s.endWrite q r polls).pending = s.pending := by simp [State.endWrite]

@[simp] theorem State.polled_pending (q : BusRequest) (polls : Nat) (due : Stamp) (acknowledged : Bool) :
    (s.polled q polls due acknowledged).pending = s.pending := by
  unfold State.polled
  split <;> simp [apply_ite State.pending]

@[simp] theorem State.polledAtRestart_pending (q : BusRequest) (polls : Nat) (acknowledged : Bool) :
    (s.polledAtRestart q polls acknowledged).pending = s.pending := by
  unfold State.polledAtRestart
  split <;> simp

@[simp] theorem State.poll_pending (acknowledged : Bool) : (s.poll acknowledged).pending = s.pending := by
  unfold State.poll
  split <;> simp [apply_ite State.pending]

@[simp] theorem State.pollTimeout_pending : s.pollTimeout.pending = s.pending := by
  unfold State.pollTimeout
  split <;> simp [apply_ite State.pending]

@[simp] theorem State.readNack_pending (q : BusRequest) : (s.readNack q).pending = s.pending := by
  unfold State.readNack
  split <;> simp

@[simp] theorem State.writeNack_pending (q : BusRequest) :
    (s.writeNack q).pending = s.pending := by simp [State.writeNack]

@[simp] theorem State.dataNack_pending (q : BusRequest) (k : Nat) :
    (s.dataNack q k).pending = s.pending := by simp [State.dataNack]

@[simp] theorem State.nack_pending (point : AckPoint) : (s.nack point).pending = s.pending := by
  unfold State.nack
  split <;> simp [apply_ite State.pending]

@[simp] theorem State.recovered_pending : s.recovered.pending = s.pending := by
  unfold State.recovered
  split <;> simp

/-! ### The jobs of the adapter bus -/

theorem eepromChecks_pending {ok : Nat → Nat → Bool} {act : Slot → Job → State → State}
    (hact : ∀ i j u, (act i j u).pending = u.pending) (j : Job) : (eepromChecks ok act j s).pending = s.pending := by
  unfold eepromChecks
  split
  · simp
  · split <;> simp [hact, apply_ite State.pending]

@[simp] theorem queueRead_pending (i : Slot) (j : Job) : (queueRead i j s).pending = s.pending := rfl

@[simp] theorem queueWrite_pending (i : Slot) (j : Job) : (queueWrite i j s).pending = s.pending := by
  unfold queueWrite
  split <;> simp

@[simp] theorem reloadJob_pending (j : Job) : (reloadJob j s).pending = s.pending := by
  unfold reloadJob
  split
  · simp
  · split <;> simp

/-! ### The credit unit's events -/

@[simp] theorem State.coinBegin_pending (l : CoinLine) : (s.coinBegin l).pending = s.pending := by
  unfold State.coinBegin
  split <;> simp

@[simp] theorem State.coinEnd_pending (l : CoinLine) : (s.coinEnd l).pending = s.pending := by
  unfold State.coinEnd
  split <;> simp [apply_ite State.pending]

@[simp] theorem State.coinJammed_pending (l : CoinLine) : (s.coinJammed l).pending = s.pending := by
  unfold State.coinJammed
  split <;> simp

@[simp] theorem State.pulseStart_pending (i : Slot) : (s.pulseStart i).pending = s.pending := by
  unfold State.pulseStart
  split <;> simp [apply_ite State.pending]

@[simp] theorem State.meterStart_pending : s.meterStart.pending = s.pending := by
  unfold State.meterStart
  split <;> rfl

/-! ### The jobs of the credit unit -/

theorem creditJob_pending {act : Job → State → State} (hact : ∀ j u, (act j u).pending = u.pending) (j : Job) :
    (creditJob act j s).pending = s.pending := by
  unfold creditJob
  split <;> simp [hact]

theorem amountJob_pending {act : Job → State → State} (hact : ∀ j u, (act j u).pending = u.pending) (j : Job) :
    (amountJob act j s).pending = s.pending := by
  unfold amountJob
  split <;> simp [hact]

@[simp] theorem grantJob_pending (j : Job) : (grantJob j s).pending = s.pending := by simp [grantJob]

@[simp] theorem withdrawCredit_pending (j : Job) :
    (withdrawCredit j s).pending = s.pending := by simp [withdrawCredit]

@[simp] theorem deliverJob_pending (j : Job) : (deliverJob j s).pending = s.pending := by
  unfold deliverJob
  split <;> simp [apply_ite State.pending]

@[simp] theorem recallJob_pending (j : Job) : (recallJob j s).pending = s.pending := by
  unfold recallJob
  split <;> simp

@[simp] theorem coinJob_pending (j : Job) : (coinJob j s).pending = s.pending := by
  unfold coinJob
  split <;> simp

/-! ### The jobs of the slot manager -/

@[simp] theorem State.completePower_pending (c : CellNo) (i : Slot) (r : Result) (detail : Nat) (mask : Word) :
    (s.completePower c i r detail mask).pending = s.pending := by simp [State.completePower]

theorem powerJob_pending {act : Slot → Job → State → State} (hact : ∀ i j u, (act i j u).pending = u.pending)
    (j : Job) : (powerJob act j s).pending = s.pending := by
  unfold powerJob
  split
  · simp
  · split <;> simp [hact]

@[simp] theorem State.supersede_pending (i : Slot) : (s.supersede i).pending = s.pending := by
  unfold State.supersede
  split <;> simp

@[simp] theorem State.cancelPending_pending (i : Slot) : (s.cancelPending i).pending = s.pending := rfl

@[simp] theorem State.offByState_pending (i : Slot) (c : CellNo) : (s.offByState i c).pending = s.pending := by
  unfold State.offByState
  split <;> simp

@[simp] theorem State.powerOff_pending (i : Slot) (j : Job) : (s.powerOff i j).pending = s.pending := by
  unfold State.powerOff
  split <;> simp

@[simp] theorem State.answerPower_pending (i : Slot) (c : CellNo) (a : Answer) :
    (s.answerPower i c a).pending = s.pending := by
  unfold State.answerPower
  split <;> simp

@[simp] theorem State.powerRequest_pending (i : Slot) (j : Job) :
    (s.powerRequest i j).pending = s.pending := by simp [State.powerRequest]

@[simp] theorem State.powerOn_pending (i : Slot) (j : Job) : (s.powerOn i j).pending = s.pending := by
  unfold State.powerOn
  split <;> simp

@[simp] theorem State.cycleThrough_pending (i : Slot) (j : Job) :
    (s.cycleThrough i j).pending = s.pending := by simp [State.cycleThrough]

@[simp] theorem State.cycleByState_pending (i : Slot) (j : Job) : (s.cycleByState i j).pending = s.pending := by
  unfold State.cycleByState
  split <;> simp [apply_ite State.pending]

@[simp] theorem State.powerCycle_pending (i : Slot) (j : Job) : (s.powerCycle i j).pending = s.pending := by
  unfold State.powerCycle
  split <;> simp

@[simp] theorem State.setPin_pending (b : Bool) (i : Slot) (j : Job) : (s.setPin b i j).pending = s.pending := by
  unfold State.setPin
  split <;> simp

@[simp] theorem supplyJob_pending (j : Job) : (supplyJob j s).pending = s.pending := by
  simp only [supplyJob]
  split <;> simp

/-! ### The raster generator's events -/

@[simp] theorem State.startLine_pending : s.startLine.pending = s.pending := by
  unfold State.startLine
  split <;> simp

@[simp] theorem State.endFrame_pending : s.endFrame.pending = s.pending := by
  unfold State.endFrame
  split <;> simp

@[simp] theorem State.releaseTimeout_pending : s.releaseTimeout.pending = s.pending := by
  unfold State.releaseTimeout
  split <;> simp

/-! ### The jobs of the control router -/

@[simp] theorem State.completeMap_pending (c : CellNo) (m : ControlMap) :
    (s.completeMap c m).pending = s.pending := by simp [State.completeMap]

@[simp] theorem State.supersedeMap_pending (i : Slot) : (s.supersedeMap i).pending = s.pending := by
  unfold State.supersedeMap
  split <;> simp

@[simp] theorem State.acceptMap_pending (i : Slot) (c : CellNo) (m : ControlMap) :
    (s.acceptMap i c m).pending = s.pending := by
  unfold State.acceptMap
  split <;> simp

@[simp] theorem State.judgeMap_pending (i : Slot) (c : CellNo) : (s.judgeMap i c).pending = s.pending := by
  unfold State.judgeMap
  split <;> simp

@[simp] theorem loadMapJob_pending (j : Job) : (loadMapJob j s).pending = s.pending := by
  unfold loadMapJob
  split
  · simp
  · split <;> simp

@[simp] theorem chordJob_pending (j : Job) : (chordJob j s).pending = s.pending := by
  unfold chordJob
  split <;> simp [apply_ite State.pending]

/-! ### The control router's events -/

@[simp] theorem State.settlePins_pending : s.settlePins.pending = s.pending := by
  unfold State.settlePins
  split <;> rfl

@[simp] theorem State.activated_pending (l : Line) : (s.activated l).pending = s.pending := by
  unfold State.activated
  split <;> simp

@[simp] theorem State.lineOn_pending (l : Line) : (s.lineOn l).pending = s.pending := by
  unfold State.lineOn
  split <;> simp

@[simp] theorem State.lineOff_pending (l : Line) : (s.lineOff l).pending = s.pending := by
  unfold State.lineOff
  split <;> simp

@[simp] theorem State.installPending_pending (i : Slot) : (s.installPending i).pending = s.pending := by
  unfold State.installPending
  split <;> simp

@[simp] theorem State.stepEntry_pending (k m : Nat) (f : MapEntry → EntryPhase → EntryPhase) :
    (s.stepEntry k m f).pending = s.pending := by
  unfold State.stepEntry
  split <;> simp

@[simp] theorem State.chordDetected_pending : s.chordDetected.pending = s.pending := rfl

@[simp] theorem State.exitChord_pending : s.exitChord.pending = s.pending := by
  unfold State.exitChord
  split <;> simp [apply_ite State.pending]

/-! ### SET_LEVELS and SETUP -/

@[simp] theorem State.setItem_pending (item : Nat) (src : Source) (v : Nat) :
    (s.setItem item src v).pending = s.pending := by
  unfold State.setItem
  split <;> simp [apply_ite State.pending]

@[simp] theorem State.setLevel_pending (c : CellNo) (item : Nat) (src : Source) (value : Nat) :
    (s.setLevel c item src value).pending = s.pending := by
  simp only [State.setLevel]
  split <;> simp

@[simp] theorem levelsJob_pending (j : Job) : (levelsJob j s).pending = s.pending := by
  unfold levelsJob
  split
  · simp
  · split
    · simp
    · split <;> simp

@[simp] theorem monitorJob_pending (j : Job) : (monitorJob j s).pending = s.pending := by
  unfold monitorJob
  split <;> simp

@[simp] theorem glideJob_pending (j : Job) : (glideJob j s).pending = s.pending := by
  unfold glideJob
  split <;> simp

/-! ### SWITCH and ABORT -/

@[simp] theorem switchJob_pending (j : Job) : (switchJob j s).pending = s.pending := by
  unfold switchJob
  split <;> simp

@[simp] theorem State.abortWaiting_pending : s.abortWaiting.pending = s.pending := by
  unfold State.abortWaiting
  split <;> simp

@[simp] theorem abortJob_pending (j : Job) : (abortJob j s).pending = s.pending := by
  unfold abortJob
  split <;> simp

/-! ### The measurement unit's events -/

@[simp] theorem State.slotEvent_pending (src : Source) (e : SyncEvent) : (s.slotEvent src e).pending = s.pending := by
  unfold State.slotEvent
  split <;> simp

@[simp] theorem State.controllerEvent_pending (src : Source) (e : SyncEvent) :
    (s.controllerEvent src e).pending = s.pending := by
  unfold State.controllerEvent
  split <;> simp [apply_ite State.pending]

@[simp] theorem State.signal_pending (src : Source) (e : SyncEvent) :
    (s.signal src e).pending = s.pending := by simp [State.signal]

@[simp] theorem State.signalIf_pending (src : Source) (e : Option SyncEvent) :
    (s.signalIf src e).pending = s.pending := by
  unfold State.signalIf
  split <;> simp

@[simp] theorem State.releaseAt_pending (t : Stamp) : (s.releaseAt t).pending = s.pending := by simp [State.releaseAt]

@[simp] theorem State.cutTo_pending (src : Source) (rough : Bool) :
    (s.cutTo src rough).pending = s.pending := by simp [State.cutTo]

@[simp] theorem State.announce_pending (src : Source) (t : Stamp) : (s.announce src t).pending = s.pending := by
  simp only [State.announce]
  split
  · simp
  · split <;> simp

@[simp] theorem State.hsyncAt_pending (src : Source) (t : Stamp) :
    (s.hsyncAt src t).pending = s.pending := by simp [State.hsyncAt]

@[simp] theorem State.vsyncRecord_pending (src : Source) (o : VsyncOutcome) :
    (s.vsyncRecord src o).pending = s.pending := by
  unfold State.vsyncRecord
  split <;> rfl

@[simp] theorem State.takeCoincident_pending (src : Source) (input : SyncInput) (t : Stamp) :
    (s.takeCoincident src input t).pending = s.pending := by
  unfold State.takeCoincident
  split <;> simp [apply_ite State.pending]

@[simp] theorem State.noteVertical_pending (src : Source) (input : SyncInput) (t : Stamp) :
    (s.noteVertical src input t).pending = s.pending := by
  unfold State.noteVertical
  split <;> simp [apply_ite State.pending]

@[simp] theorem State.recognise_pending (src : Source) (input : SyncInput) (t : Stamp) :
    (s.recognise src input t).pending = s.pending := by simp [State.recognise]

@[simp] theorem State.vsyncTaken_pending (src : Source) (input : SyncInput) (t : Stamp) :
    (s.vsyncTaken src input t).pending = s.pending := by
  simp only [State.vsyncTaken]
  split <;> simp

@[simp] theorem State.vsyncAt_pending (src : Source) (input : SyncInput) (pulse : SyncPulse) :
    (s.vsyncAt src input pulse).pending = s.pending := by
  unfold State.vsyncAt
  split <;> simp [apply_ite State.pending]

@[simp] theorem State.polarityAt_pending (src : Source) (input : SyncInput) :
    (s.polarityAt src input).pending = s.pending := by
  unfold State.polarityAt
  split <;> simp

@[simp] theorem State.lossOf_pending (src : Source) : (s.lossOf src).pending = s.pending := by
  unfold State.lossOf
  split <;> simp

end

/-! ### The commands -/

/-- What a command does beside the queue, answered as a next state: the end of a command adds marks alone (R14). -/
theorem finish_completes {old new : State} (h : new.pending = old.pending) :
    ∃ t, finish old new = .next t ∧ t.pending = old.pending := ⟨_, rfl, h⟩

/-- A job's command, whose action leaves the queue alone. -/
theorem takeIf_completes {act : Job → State → State} (hact : ∀ j u, (act j u).pending = u.pending)
    (due : Job → Bool) (s : State) :
    ∃ t, finish s (s.takeIf due act) = .next t ∧ t.pending = s.pending := finish_completes (takeIf_pending s hact)

/-- A POWER job's command. -/
theorem powerJob_completes {act : Slot → Job → State → State} (hact : ∀ i j u, (act i j u).pending = u.pending)
    (due : Job → Bool) (s : State) :
    ∃ t, finish s (s.takeIf due (powerJob act)) = .next t ∧ t.pending = s.pending :=
  takeIf_completes (fun j u => powerJob_pending u hact j) due s

/-- The command of a CREDIT job with an amount. -/
theorem amountJob_completes {act : Job → State → State} (hact : ∀ j u, (act j u).pending = u.pending)
    (due : Job → Bool) (s : State) :
    ∃ t, finish s (s.takeIf due (creditJob (amountJob act))) = .next t ∧ t.pending = s.pending :=
  takeIf_completes (fun j u => creditJob_pending u (fun k v => amountJob_pending v hact k) j) due s

/-- Settles O2: every command but power-on reset ends through `finish` on what its operation makes of the state, and
its operation leaves the queue alone. -/
theorem everyCommandCompletes : Obligations.EveryCommandCompletes := by
  intro c s
  cases c with
  | windowWrite addr v => exact finish_completes (s.writeAt_pending addr v)
  | post v => exact finish_completes (s.writePost_pending v)
  | done v => exact finish_completes (s.writeDone_pending v)
  | notice v => exact finish_completes (s.writeNotice_pending v)
  | noticeMask v => exact finish_completes (s.writeMask_pending v)
  | writeNoEffect => exact finish_completes rfl
  | softRestart v => exact finish_completes (s.writeControl_pending v)
  | softRestartEnd b => exact finish_completes (s.busStopped_pending b)
  | powerOnReset => exact ⟨_, rfl, rfl⟩
  | unknownKind => exact takeIf_completes (fun j u => complete_pending u ..) _ s
  | setupBadGroup => exact takeIf_completes (fun j u => complete_pending u ..) _ s
  | switch => exact takeIf_completes (fun j u => switchJob_pending u j) _ s
  | abort => exact takeIf_completes (fun j u => abortJob_pending u j) _ s
  | powerOff => exact powerJob_completes (fun i j u => u.powerOff_pending i j) _ s
  | powerOn => exact powerJob_completes (fun i j u => u.powerOn_pending i j) _ s
  | powerCycle => exact powerJob_completes (fun i j u => u.powerCycle_pending i j) _ s
  | pin => exact powerJob_completes (fun i j u => u.setPin_pending true i j) _ s
  | unpin => exact powerJob_completes (fun i j u => u.setPin_pending false i j) _ s
  | loadMap => exact takeIf_completes (fun j u => loadMapJob_pending u j) _ s
  | creditGrant => exact amountJob_completes (fun j u => grantJob_pending u j) _ s
  | creditWithdraw => exact amountJob_completes (fun j u => withdrawCredit_pending u j) _ s
  | creditDeliver => exact amountJob_completes (fun j u => deliverJob_pending u j) _ s
  | creditRecall => exact takeIf_completes (fun j u => creditJob_pending u (fun k v => recallJob_pending v k) j) _ s
  | setLevels => exact takeIf_completes (fun j u => levelsJob_pending u j) _ s
  | setupMonitor => exact takeIf_completes (fun j u => monitorJob_pending u j) _ s
  | setupGlide => exact takeIf_completes (fun j u => glideJob_pending u j) _ s
  | setupChord => exact takeIf_completes (fun j u => chordJob_pending u j) _ s
  | setupCoin => exact takeIf_completes (fun j u => coinJob_pending u j) _ s
  | setupSupply => exact takeIf_completes (fun j u => supplyJob_pending u j) _ s
  | eepromRead =>
    exact takeIf_completes (fun j u => eepromChecks_pending u (fun i k v => queueRead_pending v i k) j) _ s
  | eepromWrite =>
    exact takeIf_completes (fun j u => eepromChecks_pending u (fun i k v => queueWrite_pending v i k) j) _ s
  | reload => exact takeIf_completes (fun j u => reloadJob_pending u j) _ s
  | pageUpdateStart id => exact finish_completes (s.pageStart_pending id)
  | pageUpdateEnd id => exact finish_completes (s.pageEnd_pending id)
  | presenceDetected i => exact finish_completes (s.presence_pending i)
  | removal i => exact finish_completes (s.removeSlot_pending i)
  | overcurrent i => exact finish_completes (s.overcurrent_pending i)
  | settleTimerExpiry i => exact finish_completes (s.settled_pending i)
  | startTimerExpiry i => exact finish_completes (s.startFailed_pending i)
  | graceTimerExpiry i => exact finish_completes (s.graceOver_pending i)
  | coolTimerExpiry i => exact finish_completes (s.cooled_pending i)
  | busRequestStart => exact finish_completes s.startRequest_pending
  | readTransactionEnd bytes => exact finish_completes (s.endRead_pending bytes)
  | writeDataStop => exact finish_completes s.dataStop_pending
  | ackPoll a => exact finish_completes (s.poll_pending a)
  | writeTimeout => exact finish_completes s.pollTimeout_pending
  | ackMissing p => exact finish_completes (s.nack_pending p)
  | writeRecoveryEnd => exact finish_completes s.recovered_pending
  | hsyncLeadingEdge src t => exact finish_completes (s.hsyncAt_pending src t)
  | vsyncLeadingEdge src input p => exact finish_completes (s.vsyncAt_pending src input p)
  | polarityChange src input => exact finish_completes (s.polarityAt_pending src input)
  | hsyncLoss src => exact finish_completes (s.lossOf_pending src)
  | vsyncLoss src => exact finish_completes (s.lossOf_pending src)
  | holdingLineStart => exact finish_completes s.startLine_pending
  | holdingFrameEnd => exact finish_completes s.endFrame_pending
  | releaseTimerExpiry => exact finish_completes s.releaseTimeout_pending
  | lineActivation l => exact finish_completes (s.lineOn_pending l)
  | lineRelease l => exact finish_completes (s.lineOff_pending l)
  | mapInstall i => exact finish_completes (s.installPending_pending i)
  | pulseEntryEnd k n => exact finish_completes (s.stepEntry_pending k n.val _)
  | autofireOnEnd k n => exact finish_completes (s.stepEntry_pending k n.val _)
  | autofireOffEnd k n => exact finish_completes (s.stepEntry_pending k n.val _)
  | exitChord => exact finish_completes s.exitChord_pending
  | coinMeasuringBegins l => exact finish_completes (s.coinBegin_pending l)
  | coinPulseEnd l => exact finish_completes (s.coinEnd_pending l)
  | coinJam l => exact finish_completes (s.coinJammed_pending l)
  | coinPulseStart i => exact finish_completes (s.pulseStart_pending i)
  | coinPulseOnEnd | coinPulseOffEnd | meterPulseOnEnd | meterPulseOffEnd => exact finish_completes rfl
  | meterPulseStart => exact finish_completes s.meterStart_pending
  | rampStep => exact finish_completes s.rampTick_pending

/-- Settles O1: the step is defined by the queue's front. -/
theorem stepRunsFront : Obligations.StepRunsFront := fun _ _ => rfl

end Sys2Proof.Machine
end
